-- ==== Sys2Proof/Word.lean ====
section
/-! DEFINITION. The word types of PGRF (spec/00_scope.md R7, R8): planes, data buses and matrices are 64 bits,
command words 32 bits. All are unsigned; arithmetic on them wraps modulo 2^64 (R11), which is `BitVec`'s own. -/

namespace Sys2Proof

/-- A 64-bit plane, data operand, response value or transposer matrix (R7: `PLANE_BITS`, `DATA_BITS`). -/
abbrev Word := BitVec 64

/-- A 32-bit command word (R7: `CMD_BITS`; R61: always exactly 32 bits). -/
abbrev Cmd := BitVec 32

end Sys2Proof
end

