-- ==== Sys2Proof/Config.lean ====
section
/-! DEFINITION. What the spec leaves to an implementation (spec/93_implementation_defined.md, part 1): the
latency parameter, the gravity target rule, and the free values. A free value has no body: nothing can be
proved of it beyond its type. -/

namespace Sys2Proof

/-- The parameter `GRAVITY_SUPPORT_RULE` (00_scope.md R7, 92_eei_decisions.md D10, 93 U15). -/
inductive SupportRule where
  /-- `ALL_BELOW`, the normative value: every cell below the target is occupied (41_gravity.md R74). -/
  | allBelow
  /-- `DIRECTLY_BELOW`, kept for comparison only (D10): the cell directly below is occupied. -/
  | directlyBelow
deriving DecidableEq, Repr

/-- The normative value of `GRAVITY_SUPPORT_RULE` (R7, R74). -/
def Config.gravitySupportRule : SupportRule := .allBelow

/-- What `LAT(op)` exceeds 1 by, for an opcode and the planes LO and HI at acceptance (R7, R49, U1: at least 1,
finite, may depend on opcode and state). Open: log entry 6. -/
opaque Config.latExtra : BitVec 8 → Word → Word → Nat

/-- `LAT(op)`, the greatest number of edges from acceptance to response (R7, R119). -/
def Config.lat (opc : BitVec 8) (lo hi : Word) : Nat := Config.latExtra opc lo hi + 1

/-- Which of the latencies allowed by `LAT(op)` a command accepted at a given tick takes. Open: log entry 6. -/
opaque Config.latencyPick : Nat → Nat

/-- The number `L` of edges from acceptance to completion, `1 ≤ L ≤ LAT(op)` (30_encoding.md R49). -/
def Config.latency (opc : BitVec 8) (lo hi : Word) (tick : Nat) : Nat :=
  Config.latencyPick tick % Config.lat opc lo hi + 1

/-- The sequencer's pass count while BUSY (10_state.md R23, U16: any value). Free value: log entry 7. -/
opaque Config.freePassCount : Nat → Nat

/-- The sequencer's row index while BUSY (R23, U16: any value). Free value: log entry 7. -/
opaque Config.freeRowIndex : Nat → Nat

/-- The sequencer's moved flag while BUSY (R23, U16: any value). Free value: log entry 7. -/
opaque Config.freeMoved : Nat → Bool

/-- `RSP_STATUS` after a reset edge (10_state.md R22, U3). Free value: log entry 4. -/
opaque Config.freeResetStatus : Nat → BitVec 2

/-- `RSP_DATA` after a reset edge (10_state.md R22, U3). Free value: log entry 4. -/
opaque Config.freeResetData : Nat → Word

/-- The wires `rsp_status` while `rsp_valid = 0` (30_encoding.md R50, U2). Free value: log entry 5. -/
opaque Config.freeBusStatus : Nat → BitVec 2

/-- The wires `rsp_data` while `rsp_valid = 0` (30_encoding.md R50, U2). Free value: log entry 5. -/
opaque Config.freeBusData : Nat → Word

/-- `LO` between power-up and the first reset edge (70_reset_and_hazards.md R116, U7, U8). Free: log entry 11. -/
opaque Config.freePowerLo : Nat → Word

/-- `HI` between power-up and the first reset edge (R116, U7, U8). Free: log entry 11. -/
opaque Config.freePowerHi : Nat → Word

/-- `PHASE` between power-up and the first reset edge, by number (R116, U7, U8). Free: log entry 11. -/
opaque Config.freePowerPhase : Nat → Fin 3

/-- `RSP_STATUS` between power-up and the first reset edge (R116, U7, U8). Free: log entry 11. -/
opaque Config.freePowerStatus : Nat → BitVec 2

/-- `RSP_DATA` between power-up and the first reset edge (R116, U7, U8). Free: log entry 11. -/
opaque Config.freePowerData : Nat → Word

/-- The captured command word between power-up and the first reset edge (R116, U7, U16). Free: log entry 11. -/
opaque Config.freePowerCmd : Nat → Cmd

/-- The captured data operand between power-up and the first reset edge (R116, U7, U16). Free: log entry 11. -/
opaque Config.freePowerOperand : Nat → Word

/-- The edges left of a captured command between power-up and the first reset edge (R116, U7, U16). Free: log entry 11. -/
opaque Config.freePowerEdgesLeft : Nat → Nat

end Sys2Proof
end

