-- ==== Sys2Proof/Syntax.lean ====
section
/-! DEFINITION. The commands of PGRF, one constructor per row of spec/opcode_table.json, and the two ways a word
fails to be one (spec/30_encoding.md R56, R57). -/

namespace Sys2Proof

/-- A decoded command. `row`, `col` and `value` are the integers of rule R55. The data operand of XPOSE is no part
of the command word: it is captured beside it (R48) and read from the state. -/
inductive Instr where
  /-- CLR, clear the board (40_cell_access.md R65). -/
  | clr
  /-- GET, read one cell (R66). -/
  | get (row col : Nat)
  /-- SET, write one cell (R67). -/
  | set (row col value : Nat)
  /-- GRAV, gravity to the fixed point (41_gravity.md R82). -/
  | grav
  /-- GPASS, one gravity pass (R81). -/
  | gpass
  /-- XPOSE, transpose the data operand (42_transpose.md R90). -/
  | xpose
  /-- RDLO, read the low plane (R68). -/
  | rdlo
  /-- RDHI, read the high plane (R69). -/
  | rdhi
deriving DecidableEq, Repr

/-- Why a command word is no command (30_encoding.md R58). -/
inductive DecodeError where
  /-- The opcode is not in the map: the command completes with `ERR_OPC` (60_exceptions.md R98). -/
  | illegalOpcode
  /-- A reserved field is nonzero: the command completes with `ERR_RSV` (R99). -/
  | reservedField
deriving DecidableEq, Repr

/-- One row of the table of rule R57. -/
structure OpcodeRow where
  opcode : BitVec 8
  pattern : Cmd
  mask : Cmd
deriving DecidableEq, Repr

end Sys2Proof
end

