-- ==== Sys2Proof/WellFormed.lean ====
section
/-! DEFINITION. Which commands a command word can carry (spec/30_encoding.md R55): each argument is an unsigned
8-bit field, so a larger one cannot be encoded and the host's driver refuses it (92_eei_decisions.md D27, 93 U11).
Arguments from 8 (row, col) or 4 (value) up to 255 ARE well formed: they reach the block and give ERR_ARG. -/

namespace Sys2Proof

/-- An argument that fits its 8-bit field (R55, R63). -/
def argEncodable (n : Nat) : Bool := decide (n < 256)

/-- Every argument of the command fits its field. -/
def Instr.wellFormed : Instr → Bool
  | .clr => true
  | .get row col => argEncodable row && argEncodable col
  | .set row col value => argEncodable row && argEncodable col && argEncodable value
  | .grav => true
  | .gpass => true
  | .xpose => true
  | .rdlo => true
  | .rdhi => true

/-- The command can be encoded. -/
abbrev Instr.WellFormed (i : Instr) : Prop := i.wellFormed = true

end Sys2Proof
end

