-- ==== Sys2Proof/Decode.lean ====
section
/-! DEFINITION. The command word, its decoder and its encoder (spec/30_encoding.md section 3, R54 to R62). -/

namespace Sys2Proof

/-- `OPC`, bits [7:0] (R54). -/
def cmdOpc (w : Cmd) : BitVec 8 := w.extractLsb' 0 8

/-- `ROW`, bits [15:8] (R54). -/
def cmdRow (w : Cmd) : BitVec 8 := w.extractLsb' 8 8

/-- `COL`, bits [23:16] (R54). -/
def cmdCol (w : Cmd) : BitVec 8 := w.extractLsb' 16 8

/-- `VAL`, bits [31:24] (R54). -/
def cmdVal (w : Cmd) : BitVec 8 := w.extractLsb' 24 8

/-- Bits [31:8], all reserved for the commands without operands (R57, R58). -/
def cmdArgs (w : Cmd) : BitVec 24 := w.extractLsb' 8 24

/-- The table of rule R57: opcode, match and mask, in the order of the opcode map R56. -/
def opcodeTable : List OpcodeRow :=
  [⟨0x01, 0x00000001, 0xFFFFFFFF⟩, ⟨0x02, 0x00000002, 0xFF0000FF⟩,
   ⟨0x03, 0x00000003, 0x000000FF⟩, ⟨0x04, 0x00000004, 0xFFFFFFFF⟩,
   ⟨0x05, 0x00000005, 0xFFFFFFFF⟩, ⟨0x06, 0x00000006, 0xFFFFFFFF⟩,
   ⟨0x07, 0x00000007, 0xFFFFFFFF⟩, ⟨0x08, 0x00000008, 0xFFFFFFFF⟩]

/-- The opcode of a command (R56). -/
def Instr.opcode : Instr → BitVec 8
  | .clr => 0x01
  | .get _ _ => 0x02
  | .set _ _ _ => 0x03
  | .grav => 0x04
  | .gpass => 0x05
  | .xpose => 0x06
  | .rdlo => 0x07
  | .rdhi => 0x08

/-- A command without operands: `ERR_RSV` unless bits [31:8] are zero (R58). -/
def decodeBare (w : Cmd) (i : Instr) : Except DecodeError Instr :=
  if cmdArgs w = 0 then .ok i else .error .reservedField

/-- GET: `ERR_RSV` unless VAL is zero (R57, R58). -/
def decodeGet (w : Cmd) : Except DecodeError Instr :=
  if cmdVal w = 0 then .ok (.get (cmdRow w).toNat (cmdCol w).toNat) else .error .reservedField

/-- SET has no reserved field (R57). -/
def decodeSet (w : Cmd) : Except DecodeError Instr :=
  .ok (.set (cmdRow w).toNat (cmdCol w).toNat (cmdVal w).toNat)

/-- Decode is total, and checks the opcode before the reserved fields (R58, 60_exceptions.md R100). -/
def decode (w : Cmd) : Except DecodeError Instr :=
  if cmdOpc w = 0x01 then decodeBare w .clr
  else if cmdOpc w = 0x02 then decodeGet w
  else if cmdOpc w = 0x03 then decodeSet w
  else if cmdOpc w = 0x04 then decodeBare w .grav
  else if cmdOpc w = 0x05 then decodeBare w .gpass
  else if cmdOpc w = 0x06 then decodeBare w .xpose
  else if cmdOpc w = 0x07 then decodeBare w .rdlo
  else if cmdOpc w = 0x08 then decodeBare w .rdhi
  else .error .illegalOpcode

/-- The encoding function of rule R62, for arguments in [0,255]. -/
def enc (opc : BitVec 8) (row col value : Nat) : Cmd :=
  (BitVec.ofNat 32 value <<< 24) ||| (BitVec.ofNat 32 col <<< 16) ||| (BitVec.ofNat 32 row <<< 8)
    ||| opc.setWidth 32

/-- The command word of a well-formed command (R57, R62): an unused field is zero. -/
def encode (i : Instr) : Cmd :=
  match i with
  | .get row col => enc i.opcode row col 0
  | .set row col value => enc i.opcode row col value
  | .clr => enc i.opcode 0 0 0
  | .grav => enc i.opcode 0 0 0
  | .gpass => enc i.opcode 0 0 0
  | .xpose => enc i.opcode 0 0 0
  | .rdlo => enc i.opcode 0 0 0
  | .rdhi => enc i.opcode 0 0 0

/-- The 32-bit command word of a table word: the bits at `nbits` and above are zero, and a command is one word (R61). -/
def tableWord (nbits w : Nat) : Cmd := BitVec.ofNat 32 (w % 2 ^ nbits)

/-- The command the decoder reads from a word numbered as spec/opcode_table.json numbers it. -/
def decodeTableWord (nbits w : Nat) : Option Instr :=
  match decode (tableWord nbits w) with
  | .ok i => some i
  | .error _ => none

end Sys2Proof
end

