-- ==== Sys2Proof/Machine/State.lean ====
section
/-! DEFINITION. The state of PGRF as plain data (spec/10_state.md), the reasons a step can stop, and the machine
right after reset (spec/70_reset_and_hazards.md R111). -/

namespace Sys2Proof.Machine

/-- The grid register file: the planes `LO` and `HI` (10_state.md R14). The 64 cells are a view of them (R16). -/
structure Grid where
  /-- `LO`, the low bits of the cells. -/
  lo : Word
  /-- `HI`, the high bits of the cells. -/
  hi : Word
deriving DecidableEq, Repr

/-- The interface phase register `PHASE` (10_state.md R21). -/
inductive Phase where
  | idle
  | busy
  | resp
deriving DecidableEq, Repr

/-- The completion statuses (60_exceptions.md R95). -/
inductive Status where
  | ok
  | errArg
  | errOpc
  | errRsv
deriving DecidableEq, Repr

/-- How far a block has got with a GRAV or GPASS in progress (10_state.md R23). It may keep this, in any form; it is not
architectural, nothing reads it, and it has any value (93 U16): log entry 7. -/
structure Progress where
  passCount : Nat
  rowIndex : Nat
  moved : Bool
deriving DecidableEq, Repr

/-- What the block has captured of an accepted command (30_encoding.md R48), and how many edges are left until its
completion edge (R49). Internal sequencer state, not architectural (10_state.md R23): log entry 7. -/
structure Held where
  /-- the captured `req_cmd` -/
  cmd : Cmd
  /-- the captured `req_data` -/
  data : Word
  /-- edges left, the completion edge included -/
  edgesLeft : Nat
  /-- the sequencer's own progress -/
  progress : Progress
deriving DecidableEq, Repr

/-- What the host presents at one rising edge of `clk`: the input ports of 30_encoding.md R44, and whether the host
samples `rsp_status` and `rsp_data` at this edge (no wire: the act R50 and R118 rule on, log entry 9), and whether it made
`rsp_ready` from block outputs and not from its own state alone (no wire: the act R52 rules on, log entry 10). -/
structure Pins where
  rst : Bool
  reqValid : Bool
  reqCmd : Cmd
  reqData : Word
  rspReady : Bool
  samplesRsp : Bool
  readyFromOutputs : Bool
deriving DecidableEq, Repr

/-- What happens to the block next. -/
inductive Event where
  /-- a rising edge of `clk` with these inputs (R45) -/
  | edge (pins : Pins)
  /-- power is lost and comes back (60_exceptions.md R110, 93 U8): log entry 11 -/
  | powerLoss
deriving DecidableEq, Repr

/-- A request on the request channel (R44). -/
structure Request where
  cmd : Cmd
  data : Word
deriving DecidableEq, Repr

/-- Everything the spec gives the block, and the model's own fields `tick`, `events`, `offered`, `needsReset`
(INVENTORY.md, "State"). -/
structure State where
  /-- `LO` and `HI` (R14) -/
  grid : Grid
  /-- `PHASE` (R21) -/
  phase : Phase
  /-- `RSP_STATUS` (R22) -/
  rspStatus : BitVec 2
  /-- `RSP_DATA` (R22) -/
  rspData : Word
  /-- the captured command (R23, R48); read only while `PHASE` is BUSY -/
  held : Held
  /-- the model's: how many events have passed; makes each free value a fresh one (log entry 18) -/
  tick : Nat
  /-- the model's: what the outside does next, soonest first (log entry 1) -/
  events : List Event
  /-- the model's: the request of the last edge, if it was not accepted (log entry 8) -/
  offered : Option Request
  /-- the model's: power was lost and no reset edge has come since (log entry 11) -/
  needsReset : Bool
deriving DecidableEq, Repr

/-- PGRF never stops with a fault: it has no trap (60_exceptions.md R103), every command completes with a status
(R95), and the block has no hang (70_reset_and_hazards.md R120). Log entry 17. -/
inductive Fault where
deriving DecidableEq, Repr

/-- The runs the spec gives no meaning to (93_implementation_defined.md, treatment "refuse"). -/
inductive Refusal where
  /-- An instruction without a meaning. No arm of exec raises it. Safe. -/
  | notModelled (mnemonic : String)
  /-- Raised by the step when the host withdraws or changes a request before it is accepted (R52, U4). Safe. -/
  | requestNotHeld
  /-- Raised by the step when the host samples `rsp_*` while `rsp_valid = 0` (R50, U5). Safe. -/
  | sampledWithoutValid
  /-- Raised by the step when the host drives `rsp_ready` combinationally from block outputs (R52, U4). Safe. -/
  | readyFromOutputs
  /-- Raised by the step when the host presents a request after power-up with no reset edge before it
  (R116, U7). Safe. -/
  | requestBeforeReset
deriving DecidableEq, Repr

/-- The sequencer with its state discarded (R23, R111): log entry 7. -/
def Held.discarded : Held := ⟨0, 0, 0, ⟨0, 0, false⟩⟩

/-- The empty board (R20). -/
def Grid.empty : Grid := ⟨0, 0⟩

/-- The block right after reset (R20, R21, R111). `RSP_STATUS` and `RSP_DATA` are unspecified there: zero is the
model's choice (log entry 3). No event is pending: log entry 1 says how commands come in. -/
def State.reset : State where
  grid := Grid.empty
  phase := .idle
  rspStatus := 0
  rspData := 0
  held := Held.discarded
  tick := 0
  events := []
  offered := none
  needsReset := false

end Sys2Proof.Machine
end

