-- ==== Sys2Proof/Machine/Flags.lean ====
section
/-! DEFINITION. PGRF has no flags and no condition codes (spec/10_state.md R25): the outcome of a command is its
status alone. This file holds the status codes (spec/60_exceptions.md R95) and the status of a word that does not
decode (R98, R99). -/

namespace Sys2Proof.Machine

/-- The 2-bit code of a status (R95). -/
def Status.code : Status → BitVec 2
  | .ok => 0
  | .errArg => 1
  | .errOpc => 2
  | .errRsv => 3

/-- The status a word that is no command completes with (R98, R99). -/
def decodeErrorStatus : DecodeError → Status
  | .illegalOpcode => .errOpc
  | .reservedField => .errRsv

end Sys2Proof.Machine
end

