-- ==== Sys2Proof/Machine/Ops.lean ====
section
/-! DEFINITION. The named operations over the planes (spec/00_scope.md R9 to R12, 10_state.md R15, R19), and the
completion of a command (30_encoding.md R49), the taking of an error among its forms (60_exceptions.md R96). -/

namespace Sys2Proof.Machine

/-! ### Bits and masks -/

/-- The index of cell `(r,c)` (R9). -/
def cellIndex (r c : Nat) : Nat := r * 8 + c

/-- `bit(r,c)` (R10). -/
def cellBit (r c : Nat) : Word := 1#64 <<< cellIndex r c

/-- `rowMask(r)` (R10). -/
def rowMask (r : Nat) : Word := 0xFF#64 <<< (8 * r)

/-- `colMask(c)` (R10). -/
def colMask (c : Nat) : Word := 0x0101010101010101#64 <<< c

/-- `belowMask(r,c)`: column `c`, rows `0 .. r-1` (R10). -/
def belowMask (r c : Nat) : Word := colMask c &&& (cellBit r c - 1)

/-- `aboveMask(r,c)`: column `c`, rows `r+1 .. 7`; used for `r ≤ 6` only (R10). -/
def aboveMask (r c : Nat) : Word := colMask c &&& ~~~((cellBit r c <<< 1) - 1)

/-- `x & -x`, the lowest set bit of `x`, or 0 (R11). -/
def lowestSet (x : Word) : Word := x &&& -x

/-- `popcount(x)` (R12). -/
def popcount (x : Word) : Nat := (List.range 64).countP fun i => x.getLsbD i

/-- Byte lane `k` of a bus or a plane; it carries row `k` (20_memory.md R30, R31). -/
def byteLane (k : Nat) (x : Word) : BitVec 8 := x.extractLsb' (8 * k) 8

/-! ### Cells -/

/-- The occupancy word `OCC` (10_state.md R19). -/
def Grid.occ (g : Grid) : Word := g.lo ||| g.hi

/-- `cell(r,c) = (HI[i] << 1) | LO[i]` (10_state.md R15). -/
def Grid.cell (g : Grid) (r c : Nat) : BitVec 2 :=
  ((BitVec.ofBool (g.hi.getLsbD (cellIndex r c))).setWidth 2 <<< 1)
    ||| (BitVec.ofBool (g.lo.getLsbD (cellIndex r c))).setWidth 2

/-- A plane with bit `i` assigned to the lowest bit of `b` (R67: a masked assignment, not a toggle). -/
def assignBit (plane : Word) (i : Nat) (b : Word) : Word :=
  (plane &&& ~~~(1#64 <<< i)) ||| ((b &&& 1) <<< i)

/-- The planes after cell `(r,c)` is assigned `value` (40_cell_access.md R67). -/
def Grid.setCell (g : Grid) (r c value : Nat) : Grid where
  lo := assignBit g.lo (cellIndex r c) (BitVec.ofNat 64 value)
  hi := assignBit g.hi (cellIndex r c) (BitVec.ofNat 64 value >>> 1)

/-- A plane after the pieces at the set bits of `s` went one row down (41_gravity.md R76, R78). -/
def dropBits (plane s : Word) : Word := (plane &&& ~~~s) ||| ((plane &&& s) >>> 8)

/-- The planes after the pieces at the set bits of `s` went one row down, values unchanged (R76, R78). -/
def Grid.drop (g : Grid) (s : Word) : Grid := ⟨dropBits g.lo s, dropBits g.hi s⟩

/-! ### Completion -/

/-- The completion edge of a command (30_encoding.md R49): the planes, the status and the data are written, and
`PHASE <- RESP`. The sequencer holds nothing any more (10_state.md R21, R23). -/
def State.complete (s : State) (g : Grid) (st : Status) (d : Word) : State :=
  { s with grid := g, rspStatus := st.code, rspData := d, phase := .resp, held := Held.discarded }

/-- `respond(status, data)` with the planes as they are (00_scope.md R12). -/
def State.respond (s : State) (st : Status) (d : Word) : State := s.complete s.grid st d

/-- `raise ERR_X()`: taking an error. The command completes with that status and data 0, and changes no plane
(R12, 60_exceptions.md R96). There is nothing to save and nothing to return from (R103, R104). -/
def State.raise (s : State) (st : Status) : State := s.respond st 0

end Sys2Proof.Machine
end

