-- ==== Sys2Proof/Machine/Operands.lean ====
section
/-! DEFINITION. The operand forms (spec/30_encoding.md R55): the cell operand ROW, COL with its range check, the
value operand with its range check (60_exceptions.md R97), and the data operand. -/

namespace Sys2Proof.Machine

/-- ROW and COL name a cell (20_memory.md R28, R32; 60_exceptions.md R97). -/
def cellInRange (row col : Nat) : Bool := decide (row < 8) && decide (col < 8)

/-- VAL is a cell value (R97). -/
def valueInRange (value : Nat) : Bool := decide (value < 4)

/-- The data operand: the captured `req_data`, whole (R48, R55). Only XPOSE reads it (R44, R57). -/
def State.dataOperand (s : State) : Word := s.held.data

end Sys2Proof.Machine
end

