-- ==== Sys2Proof/Machine/CellAccess.lean ====
section
/-! DEFINITION. The cell access commands CLR, GET, SET, RDLO and RDHI (spec/40_cell_access.md). -/

namespace Sys2Proof.Machine

/-- CLR (R65): both planes become 0; response `(OK, 0)`. -/
def execClr (s : State) : Host.Outcome State Fault Refusal :=
  .next (s.complete Grid.empty .ok 0)

/-- GET (R66): `ERR_ARG` out of range, else the cell, zero-extended. -/
def execGet (row col : Nat) (s : State) : Host.Outcome State Fault Refusal :=
  if cellInRange row col then .next (s.respond .ok ((s.grid.cell row col).setWidth 64))
  else .next (s.raise .errArg)

/-- SET (R67): `ERR_ARG` out of range, else the cell is assigned; response `(OK, 0)`. -/
def execSet (row col value : Nat) (s : State) : Host.Outcome State Fault Refusal :=
  if cellInRange row col && valueInRange value then .next (s.complete (s.grid.setCell row col value) .ok 0)
  else .next (s.raise .errArg)

/-- RDLO (R68): response `(OK, LO)`. -/
def execRdlo (s : State) : Host.Outcome State Fault Refusal :=
  .next (s.respond .ok s.grid.lo)

/-- RDHI (R69): response `(OK, HI)`. -/
def execRdhi (s : State) : Host.Outcome State Fault Refusal :=
  .next (s.respond .ok s.grid.hi)

end Sys2Proof.Machine
end

