-- ==== Sys2Proof/Machine/Gravity.lean ====
section
/-! DEFINITION. The gravity commands GPASS and GRAV (spec/41_gravity.md). The pass is a function of the target rule
(93 U15); the commands run it with the normative one. -/

namespace Sys2Proof.Machine

/-- The target rule (R74): the cell is empty, and it is at row 0 or supported. -/
def isTarget (rule : SupportRule) (occ : Word) (r c : Nat) : Bool :=
  !occ.getLsbD (cellIndex r c) &&
    (r == 0 ||
      match rule with
      | .allBelow => occ &&& belowMask r c == belowMask r c
      | .directlyBelow => occ.getLsbD (cellIndex (r - 1) c))

/-- The source mask for `(r,c)` (R75): the lowest occupied cell above a target, 0 where nothing moves. -/
def sourceMask (rule : SupportRule) (occ : Word) (r c : Nat) : Word :=
  if isTarget rule occ r c then lowestSet (occ &&& aboveMask r c) else 0

/-- One column of a row-step: at most one move (R76, R79). The second component counts moves. -/
def columnStep (rule : SupportRule) (occ : Word) (r : Nat) (gm : Grid × Nat) (c : Nat) : Grid × Nat :=
  if sourceMask rule occ r c = 0 then gm
  else (gm.1.drop (sourceMask rule occ r c), gm.2 + 1)

/-- Row-step `r`: occupancy is taken once, then columns 0 to 7 in order (R77). -/
def rowStep (rule : SupportRule) (gm : Grid × Nat) (r : Nat) : Grid × Nat :=
  (List.range 8).foldl (columnStep rule gm.1.occ r) gm

/-- A pass under a target rule: row-steps 0 to 6 in order (R79). The planes and the move count. -/
def passUnder (rule : SupportRule) (g : Grid) : Grid × Nat :=
  (List.range 7).foldl (rowStep rule) (g, 0)

/-- `gpass()` (R79): the pass under `GRAVITY_SUPPORT_RULE`. -/
def gpass (g : Grid) : Grid × Nat := passUnder Config.gravitySupportRule g

/-- The sum of the row indices of the occupied cells (R83). -/
def rowIndexSum (g : Grid) : Nat :=
  ((List.range 64).map fun i => if g.occ.getLsbD i then i / 8 else 0).sum

/-- The loop of GRAV (R82), at most `fuel` passes, `p` moving passes made so far. -/
def gravLoop (rule : SupportRule) : Nat → Grid → Nat → Grid × Nat
  | 0, g, p => (g, p)
  | fuel + 1, g, p =>
    if (passUnder rule g).2 = 0 then ((passUnder rule g).1, p)
    else gravLoop rule fuel (passUnder rule g).1 (p + 1)

/-- Gravity to the fixed point under a target rule (R82): the planes and the number of moving passes. Every moving
pass lowers the sum of row indices by at least 1 (R83), so one pass more than that sum is enough: log entry 14. -/
def gravityUnder (rule : SupportRule) (g : Grid) : Grid × Nat := gravLoop rule (rowIndexSum g + 1) g 0

/-- Gravity to the fixed point under `GRAVITY_SUPPORT_RULE` (R82). -/
def gravity (g : Grid) : Grid × Nat := gravityUnder Config.gravitySupportRule g

/-- GPASS (R81): one pass; response `(OK, moves)`. -/
def execGpass (s : State) : Host.Outcome State Fault Refusal :=
  .next (s.complete (gpass s.grid).1 .ok (BitVec.ofNat 64 (gpass s.grid).2))

/-- GRAV (R82): passes to the fixed point; response `(OK, moving passes)`. -/
def execGrav (s : State) : Host.Outcome State Fault Refusal :=
  .next (s.complete (gravity s.grid).1 .ok (BitVec.ofNat 64 (gravity s.grid).2))

/-! ### The parallel form -/

/-- The sources of a row-step in all columns (R78). -/
def rowSources (rule : SupportRule) (occ : Word) (r : Nat) : Word :=
  (List.range 8).foldl (fun s c => s ||| sourceMask rule occ r c) 0

/-- Row-step `r` in the bit-parallel form (R78): the planes and `popcount(S)`. -/
def rowStepParallel (rule : SupportRule) (g : Grid) (r : Nat) : Grid × Nat :=
  (g.drop (rowSources rule g.occ r), popcount (rowSources rule g.occ r))

end Sys2Proof.Machine
end

