-- ==== Sys2Proof/Machine/Transpose.lean ====
section
/-! DEFINITION. The transpose command XPOSE, defined by its contract (spec/42_transpose.md R90), and the reference
network of rule R91. -/

namespace Sys2Proof.Machine

/-- `out[r*8+c] = m[c*8+r]` for all `r, c` (R90). -/
def transpose (m : Word) : Word :=
  BitVec.ofFnLE fun i : Fin 64 => m.getLsbD (cellIndex (i.val % 8) (i.val / 8))

/-- XPOSE (R90): response `(OK, transpose data)`; no plane is read or written (R93). -/
def execXpose (s : State) : Host.Outcome State Fault Refusal :=
  .next (s.respond .ok (transpose s.dataOperand))

/-! ### The reference network -/

/-- `K1` (R91). -/
def maskK1 : Word := 0x5500550055005500

/-- `K2` (R91). -/
def maskK2 : Word := 0x3333000033330000

/-- `K4` (R91). -/
def maskK4 : Word := 0x0F0F0F0F00000000

/-- One delta-swap stage (R91). -/
def deltaSwap (k : Word) (d : Nat) (m : Word) : Word :=
  m ^^^ (k &&& (m ^^^ (m <<< d))) ^^^ ((k &&& (m ^^^ (m <<< d))) >>> d)

/-- The three stages in the document's order: 1×1, 2×2, 4×4 (R91). -/
def transposeNetwork (m : Word) : Word :=
  deltaSwap maskK4 28 (deltaSwap maskK2 14 (deltaSwap maskK1 7 m))

end Sys2Proof.Machine
end

