-- ==== Sys2Proof/Machine/Dispatch.lean ====
section
/-! DEFINITION. The meaning of each command: one arm per constructor, each a direct call. -/

namespace Sys2Proof.Machine

def exec (i : Instr) (s : State) : Host.Outcome State Fault Refusal :=
  match i with
  | .clr => Sys2Proof.Machine.execClr s
  | .get row col => Sys2Proof.Machine.execGet row col s
  | .set row col value => Sys2Proof.Machine.execSet row col value s
  | .grav => Sys2Proof.Machine.execGrav s
  | .gpass => Sys2Proof.Machine.execGpass s
  | .xpose => Sys2Proof.Machine.execXpose s
  | .rdlo => Sys2Proof.Machine.execRdlo s
  | .rdhi => Sys2Proof.Machine.execRdhi s

end Sys2Proof.Machine
end

