-- ==== Sys2Proof/Machine/Handshake.lean ====
section
/-! DEFINITION. The ports and the handshake (spec/30_encoding.md R44 to R52), the reset edge
(70_reset_and_hazards.md R111, R112), the host's duties (R52, R118) and the loss of power (60_exceptions.md R110). -/

namespace Sys2Proof.Machine

/-! ### Output ports -/

/-- `req_ready = 1` iff `PHASE = IDLE` and `rst = 0` (R47; log entry 12). -/
def State.reqReady (s : State) (rst : Bool) : Bool := s.phase == .idle && !rst

/-- `rsp_valid = 1` iff `PHASE = RESP` (R50). -/
def State.rspValid (s : State) : Bool := s.phase == .resp

/-- The wires `rsp_status`: `RSP_STATUS` while `rsp_valid = 1`, else unspecified (R50; log entry 5). -/
def State.rspStatusPort (s : State) : BitVec 2 := if s.rspValid then s.rspStatus else Config.freeBusStatus s.tick

/-- The wires `rsp_data`: `RSP_DATA` while `rsp_valid = 1`, else unspecified (R50; log entry 5). -/
def State.rspDataPort (s : State) : Word := if s.rspValid then s.rspData else Config.freeBusData s.tick

/-! ### The host's duties -/

/-- The request on the request channel at an edge (R44). -/
def Pins.request (p : Pins) : Option Request :=
  if p.reqValid then some ⟨p.reqCmd, p.reqData⟩ else none

/-- The host keeps the request it drove at the last edge, if that was not accepted (R52). -/
def holdsRequest (p : Pins) (s : State) : Bool :=
  s.offered == none || p.request == s.offered

/-- The duty the host breaks at an edge, if any: the run is then refused (R52, R118; 93 U4, U5, U7; log entries 8,
9, 10, 11, 13). -/
def hostBreach (p : Pins) (s : State) : Option Refusal :=
  if !holdsRequest p s then some .requestNotHeld
  else if p.samplesRsp && !s.rspValid then some .sampledWithoutValid
  else if p.readyFromOutputs then some .readyFromOutputs
  else if s.needsReset && p.reqValid && !p.rst then some .requestBeforeReset
  else none

/-! ### What one edge does -/

/-- The model's own record of an edge that passed with inputs `p`: the tick, the events left, and the request that
is on the channel. -/
def State.passEdge (s : State) (p : Pins) (rest : List Event) : State :=
  { s with tick := s.tick + 1, events := rest, offered := p.request }

/-- The reset edge (R111, R112): an empty board, `PHASE <- IDLE`, the sequencer's state discarded. `RSP_STATUS` and
`RSP_DATA` are left unspecified (R22; log entry 4). -/
def State.resetEdge (s : State) : State :=
  { s with
    grid := Grid.empty
    phase := .idle
    held := Held.discarded
    rspStatus := Config.freeResetStatus s.tick
    rspData := Config.freeResetData s.tick
    needsReset := false }

/-- The sequencer's progress at a tick: free values (10_state.md R23, 93 U16; log entry 7). -/
def freeProgress (tick : Nat) : Progress :=
  ⟨Config.freePassCount tick, Config.freeRowIndex tick, Config.freeMoved tick⟩

/-- Acceptance (R48): the block captures `req_cmd` and `req_data`, and `PHASE <- BUSY`. The completion edge is the
one that comes `Config.latency` edges later (R49). -/
def State.accept (s : State) (p : Pins) : State :=
  { s with
    phase := .busy
    held := ⟨p.reqCmd, p.reqData, Config.latency (cmdOpc p.reqCmd) s.grid.lo s.grid.hi s.tick, freeProgress s.tick⟩
    offered := none }

/-- An edge while BUSY that is not the completion edge (R49). -/
def State.countDown (s : State) : State :=
  { s with held := ⟨s.held.cmd, s.held.data, s.held.edgesLeft - 1, freeProgress s.tick⟩ }

/-- The response is taken (R51): `PHASE <- IDLE`. -/
def State.takeResponse (s : State) : State := { s with phase := .idle }

/-- `PHASE` by number, for its free value. -/
def phaseOfFin : Fin 3 → Phase
  | 0 => .idle
  | 1 => .busy
  | 2 => .resp

/-- Every register unspecified (R116, 93 U7, U8; log entry 11). -/
def State.unspecified (s : State) : State :=
  { s with
    grid := ⟨Config.freePowerLo s.tick, Config.freePowerHi s.tick⟩
    phase := phaseOfFin (Config.freePowerPhase s.tick)
    rspStatus := Config.freePowerStatus s.tick
    rspData := Config.freePowerData s.tick
    held := ⟨Config.freePowerCmd s.tick, Config.freePowerOperand s.tick, Config.freePowerEdgesLeft s.tick,
      freeProgress s.tick⟩ }

/-- Power is lost and comes back (R110, R116): every register is unspecified until a reset edge, and the host's
requests begin anew. -/
def State.losePower (s : State) (rest : List Event) : State :=
  { s.unspecified with tick := s.tick + 1, events := rest, offered := none, needsReset := true }

end Sys2Proof.Machine
end

