-- ==== Sys2Proof/Machine/Clock.lean ====
section
/-! DEFINITION. One rising edge of `clk` (spec/30_encoding.md R45 to R52): what Step.lean calls. -/

namespace Sys2Proof.Machine

/-- The held command runs: the decode of rule R58, then the rule of the command; a word that is no command
completes with its error status (60_exceptions.md R96, R98, R99). -/
def runHeld (cmd : Cmd) (s : State) : Host.Outcome State Fault Refusal :=
  match decode cmd with
  | .ok i => exec i s
  | .error e => .next (s.raise (decodeErrorStatus e))

/-- An edge with `rst = 0` in each phase (R48, R49, R51). `t` is `s` after `State.passEdge`, which changes no
register. -/
def phaseEdge (p : Pins) (t : State) : Host.Outcome State Fault Refusal :=
  match t.phase with
  | .idle => .next (if p.reqValid then t.accept p else t)
  | .busy => if t.held.edgesLeft ≤ 1 then runHeld t.held.cmd t else .next t.countDown
  | .resp => .next (if p.rspReady then t.takeResponse else t)

/-- A rising edge of `clk` with inputs `p` (R45, R46). Reset comes before everything else; before the first reset
after power-up every register stays unspecified (R116). -/
def clockEdge (p : Pins) (rest : List Event) (s : State) : Host.Outcome State Fault Refusal :=
  match hostBreach p s with
  | some r => .refused r
  | none =>
    if p.rst then .next (s.passEdge p rest).resetEdge
    else if s.needsReset then .next (s.passEdge p rest).unspecified
    else phaseEdge p (s.passEdge p rest)

/-- What happens next to the block. With no event left `clk` is stopped, and every register holds (R110). -/
def nextEvent (s : State) : Host.Outcome State Fault Refusal :=
  match s.events with
  | [] => .next s
  | .edge p :: rest => clockEdge p rest s
  | .powerLoss :: rest => .next (s.losePower rest)

/-- Inputs at which the host does nothing new: it keeps a request it is bound to keep, takes no response, samples
none, and drives `rsp_ready` from its own state (R52). -/
def restingPins (s : State) : Pins where
  rst := false
  reqValid := s.offered.isSome
  reqCmd := (s.offered.map Request.cmd).getD 0
  reqData := (s.offered.map Request.data).getD 0
  rspReady := false
  samplesRsp := false
  readyFromOutputs := false

/-- `s` with the command word `cmd` accepted and its completion edge the next event (log entry 1). The data operand is
the one `s` holds. -/
def placeCommand (cmd : Cmd) (s : State) : State :=
  { s with
    phase := .busy
    held := ⟨cmd, s.held.data, 1, s.held.progress⟩
    events := .edge (restingPins s) :: s.events
    needsReset := false }

/-- The block as the function of rule R53: the planes, the status and the data that a command word and a data operand
give from planes `g`. It is `runHeld` on an otherwise empty state. -/
def transact (g : Grid) (cmd : Cmd) (data : Word) : Host.Outcome (Grid × BitVec 2 × Word) Fault Refusal :=
  match runHeld cmd { State.reset with grid := g, phase := .busy, held := ⟨cmd, data, 1, freeProgress 0⟩ } with
  | .next t => .next (t.grid, t.rspStatus, t.rspData)
  | .fault f => .fault f
  | .refused r => .refused r

end Sys2Proof.Machine
end

