-- ==== Sys2Proof/Machine/Step.lean ====
section
/-! DEFINITION. One step of the block: its next event, normally one rising edge of `clk` (Clock.lean). -/

namespace Sys2Proof.Machine

/-- One step: the next event. -/
def step (s : State) : Host.Outcome State Fault Refusal := nextEvent s

/-- `s` with a table word placed where the next step takes its command from: accepted, and due at the next edge
(log entry 1). -/
def State.withFetchWord (s : State) (nbits w : Nat) : State := placeCommand (tableWord nbits w) s

end Sys2Proof.Machine
end

