-- ==== Sys2Proof/Machine/Assembler.lean ====
section
/-! DEFINITION. The assembler syntax of spec/30_encoding.md R63 and the pseudo-instruction CLRCELL of R64: one line
of text, as a list of characters, to the request it stands for. It is the host's tool, no part of the block; log entry
20 says what the model fixes of the syntax. -/

namespace Sys2Proof.Machine

/-- Why a line is no command (R63: an assembly error, not a command; R55, 92_eei_decisions.md D27). -/
inductive AsmError where
  | unknownMnemonic
  | malformedOperands
  | operandOutOfRange
deriving DecidableEq, Repr

/-- The request a line stands for: the command word, and the data operand where the syntax gives one. -/
structure AsmRequest where
  cmd : Cmd
  data : Option Word
deriving DecidableEq, Repr

/-- A space or a tab. -/
def isBlankChar (c : Char) : Bool := c == ' ' || c == '\t'

/-- A capital letter to its small letter: the syntax is case-insensitive (R63). -/
def lowerChar (c : Char) : Char :=
  if 65 ≤ c.toNat && c.toNat ≤ 90 then Char.ofNat (c.toNat + 32) else c

/-- A line without its comment (R63: `;` starts one), in small letters. -/
def asmText (line : List Char) : List Char := (line.takeWhile (· != ';')).map lowerChar

/-- A text without blanks at its two ends. -/
def trimBlanks (cs : List Char) : List Char :=
  ((cs.dropWhile isBlankChar).reverse.dropWhile isBlankChar).reverse

/-- A text cut at its commas. -/
def splitCommas : List Char → List (List Char)
  | [] => [[]]
  | c :: cs =>
    if c == ',' then [] :: splitCommas cs
    else match splitCommas cs with
      | [] => [[c]]
      | first :: others => (c :: first) :: others

/-- The value of a digit below `base`. -/
def digitValue (base : Nat) (c : Char) : Option Nat :=
  if 48 ≤ c.toNat && c.toNat ≤ 57 && decide (c.toNat - 48 < base) then some (c.toNat - 48)
  else if 97 ≤ c.toNat && c.toNat ≤ 102 && decide (c.toNat - 87 < base) then some (c.toNat - 87)
  else none

/-- The number a row of digits writes, after a number `acc` already read. -/
def digitsFrom (base acc : Nat) : List Char → Option Nat
  | [] => some acc
  | c :: cs => match digitValue base c with
    | some d => digitsFrom base (acc * base + d) cs
    | none => none

/-- A decimal or `0x` integer (R63). -/
def parseNumber (cs : List Char) : Option Nat :=
  match cs with
  | [] => none
  | ['0', 'x'] => none
  | '0' :: 'x' :: ds => digitsFrom 16 0 ds
  | ds => digitsFrom 10 0 ds

/-- The operands of a line: numbers, each marked if it stands behind a `#`. `none` where one is malformed. -/
def parseOperands (rest : List Char) : Option (List (Bool × Nat)) :=
  if trimBlanks rest = [] then some []
  else ((splitCommas rest).map trimBlanks).mapM fun cs =>
    match cs with
    | '#' :: ds => (parseNumber ds).map fun n => (true, n)
    | ds => (parseNumber ds).map fun n => (false, n)

/-- A command with a command word alone: an operand outside [0,255] is an assembly error (R63). -/
def asmCommand (i : Instr) : Except AsmError AsmRequest :=
  if i.wellFormed then .ok ⟨encode i, none⟩ else .error .operandOutOfRange

/-- The request of a mnemonic and its operands (R63, R64). -/
def asmRequest (mnemonic : List Char) (ops : List (Bool × Nat)) : Except AsmError AsmRequest :=
  if mnemonic = ['c', 'l', 'r'] then
    match ops with
    | [] => asmCommand .clr
    | _ => .error .malformedOperands
  else if mnemonic = ['g', 'e', 't'] then
    match ops with
    | [(false, r), (false, c)] => asmCommand (.get r c)
    | _ => .error .malformedOperands
  else if mnemonic = ['s', 'e', 't'] then
    match ops with
    | [(false, r), (false, c), (false, v)] => asmCommand (.set r c v)
    | _ => .error .malformedOperands
  else if mnemonic = ['c', 'l', 'r', 'c', 'e', 'l', 'l'] then
    match ops with
    | [(false, r), (false, c)] => asmCommand (.set r c 0)
    | _ => .error .malformedOperands
  else if mnemonic = ['g', 'r', 'a', 'v'] then
    match ops with
    | [] => asmCommand .grav
    | _ => .error .malformedOperands
  else if mnemonic = ['g', 'p', 'a', 's', 's'] then
    match ops with
    | [] => asmCommand .gpass
    | _ => .error .malformedOperands
  else if mnemonic = ['x', 'p', 'o', 's', 'e'] then
    match ops with
    | [(true, m)] =>
      if m < 2 ^ 64 then .ok ⟨encode .xpose, some (BitVec.ofNat 64 m)⟩ else .error .operandOutOfRange
    | _ => .error .malformedOperands
  else if mnemonic = ['r', 'd', 'l', 'o'] then
    match ops with
    | [] => asmCommand .rdlo
    | _ => .error .malformedOperands
  else if mnemonic = ['r', 'd', 'h', 'i'] then
    match ops with
    | [] => asmCommand .rdhi
    | _ => .error .malformedOperands
  else if mnemonic = ['.', 'w', 'o', 'r', 'd'] then
    match ops with
    | [(false, w)] =>
      if w < 2 ^ 32 then .ok ⟨BitVec.ofNat 32 w, some 0⟩ else .error .operandOutOfRange
    | [(false, w), (true, m)] =>
      if w < 2 ^ 32 ∧ m < 2 ^ 64 then .ok ⟨BitVec.ofNat 32 w, some (BitVec.ofNat 64 m)⟩
      else .error .operandOutOfRange
    | _ => .error .malformedOperands
  else .error .unknownMnemonic

/-- One line (R63): nothing for an empty line or a comment, else the request it stands for. -/
def assembleLine (line : List Char) : Except AsmError (Option AsmRequest) :=
  if trimBlanks (asmText line) = [] then .ok none
  else
    match parseOperands ((trimBlanks (asmText line)).dropWhile fun c => !isBlankChar c) with
    | none => .error .malformedOperands
    | some ops =>
      match asmRequest ((trimBlanks (asmText line)).takeWhile fun c => !isBlankChar c) ops with
      | .ok r => .ok (some r)
      | .error e => .error e

end Sys2Proof.Machine
end

