-- ==== Sys2Proof/Machine/GridView.lean ====
section
/-! DEFINITION. The words in which spec/41_gravity.md R72 and R83 to R89 speak of a board: columns, pieces,
compaction, a run of passes. Claims use them; no command does. -/

namespace Sys2Proof.Machine

/-- Column `c` bottom-up: the cell values at rows 0 to 7 (95_test_vectors.md, notation). -/
def Grid.column (g : Grid) (c : Nat) : List (BitVec 2) := (List.range 8).map fun r => g.cell r c

/-- The pieces of column `c` bottom-up, each with its row (00_scope.md, glossary "piece"). -/
def Grid.pieces (g : Grid) (c : Nat) : List (Nat × BitVec 2) :=
  ((List.range 8).map fun r => (r, g.cell r c)).filter fun p => p.2 != 0

/-- A stable compaction (R72, R85): the nonzero values first, in their order, then empty cells. -/
def compactColumn (vs : List (BitVec 2)) : List (BitVec 2) :=
  vs.filter (· != 0) ++ List.replicate (vs.filter (· == 0)).length 0

/-- Every column is compacted: no empty cell lies below an occupied one (R84). -/
def Grid.Settled (g : Grid) : Prop :=
  ∀ c, c < 8 → ∀ r r', r < r' → r' < 8 → g.cell r c = 0 → g.cell r' c = 0

/-- The board that holds only column `c` of `g` (R86). -/
def Grid.onlyColumn (g : Grid) (c : Nat) : Grid := ⟨g.lo &&& colMask c, g.hi &&& colMask c⟩

/-- `k` passes one after another under a target rule (R81, R88). -/
def passesUnder (rule : SupportRule) : Nat → Grid → Grid
  | 0, g => g
  | k + 1, g => passesUnder rule k (passUnder rule g).1

/-- `k` passes one after another (R88). -/
def passes (k : Nat) (g : Grid) : Grid := passesUnder Config.gravitySupportRule k g

end Sys2Proof.Machine
end

