-- ==== Sys2Proof/Safety.lean ====
section
/-! DEFINITION. What claims about runs of the block are stated with: the host that keeps its duties
(spec/30_encoding.md R52, 70_reset_and_hazards.md R118), the legal states, and runs of edges. -/

namespace Sys2Proof.Machine

/-- The host keeps its duties at the next event (R118). -/
def HostKeepsDuties (s : State) : Prop :=
  ∀ p rest, s.events = .edge p :: rest → hostBreach p s = none

/-- A step is safe: the run is not refused. -/
def SafeStep (s : State) : Prop := ∃ t, step s = .next t

/-- `LAT(op)` for the command the block holds, at the planes it holds (R49). -/
def State.heldLat (s : State) : Nat := Config.lat (cmdOpc s.held.cmd) s.grid.lo s.grid.hi

/-- The legal states of a block that has been reset: while BUSY, at least one and at most `LAT(op)` edges are left
(R49); in IDLE and RESP the sequencer holds nothing (10_state.md R21, R23); in RESP a status other than OK goes with
data 0 (60_exceptions.md R96). A block that waits for its first reset may hold anything (R116). -/
def State.Legal (s : State) : Prop :=
  s.needsReset = false →
    (s.phase = .busy → 1 ≤ s.held.edgesLeft ∧ s.held.edgesLeft ≤ s.heldLat) ∧
    (s.phase ≠ .busy → s.held = Held.discarded) ∧
    (s.phase = .resp → s.rspStatus ≠ Status.ok.code → s.rspData = 0)

/-- The edge `p` comes next and is the completion edge of the command the block holds: the host keeps its duties and
does not assert `rst`, and the count of edges has run out (R49). -/
structure State.CompletesAt (s : State) (p : Pins) (rest : List Event) : Prop where
  event : s.events = .edge p :: rest
  duties : hostBreach p s = none
  noReset : p.rst = false
  wasReset : s.needsReset = false
  busy : s.phase = .busy
  due : s.held.edgesLeft ≤ 1

/-- A host that does nothing at an edge: no reset, no request, no response taken, no sample, and `rsp_ready` from its own
state. -/
def quietPins : Pins := ⟨false, false, 0, 0, false, false, false⟩

/-- `k` steps of the block. -/
def runSteps (k : Nat) (s : State) : Host.Outcome State Fault Refusal := Sys2Proof.core.run k s

end Sys2Proof.Machine
end

