-- ==== Sys2Proof/Certificates/Slice0/Obligations.lean ====
section
/-! DEFINITION. The statements for the provers, from the numbered rules of spec/. `i.opcode`, `opcodeTable`, `column`,
`pieces`, `Legal` and `CompletesAt` are defined in Decode.lean, Machine/GridView.lean and Safety.lean. The fields `tick`,
`events`, `offered` and `needsReset` are the model's own (log entries 1, 8, 11, 18), and so is what `held` reads as once a
command is done, `Held.discarded` (log entry 7): the statements that name it there have basis 'derived'. -/

open Sys2Proof Sys2Proof.Machine

/-! ### Command words -/

/-- R54, R55, R57, R58, R62: what the encoder writes for a well-formed command, the decoder reads back, every operand
at every value of its field. -/
def Obligations.DecodeInvertsEncode : Prop :=
  ∀ i : Instr, i.WellFormed → decode (encode i) = .ok i

/-- R57, R58, R61: each command has one word; a word that decodes is the encoding of what it decodes to. -/
def Obligations.EncodeInvertsDecode : Prop :=
  ∀ (w : Cmd) (i : Instr), decode w = .ok i → i.WellFormed ∧ encode i = w

/-- R57: a word selects an opcode with valid field use iff `(cmd & mask) == match`. -/
def Obligations.DecodeSelectsTableRow : Prop :=
  ∀ (w : Cmd), ∀ row ∈ opcodeTable,
    (w &&& row.mask = row.pattern ↔ ∃ i, decode w = .ok i ∧ i.opcode = row.opcode)

/-- R58: no word matches two rows of the table of R57. -/
def Obligations.OpcodeRowsDisjoint : Prop :=
  opcodeTable.Pairwise fun a b => ∀ w : Cmd, ¬ (w &&& a.mask = a.pattern ∧ w &&& b.mask = b.pattern)

/-- R62: the encoding function, as a number, and the rule's three examples. -/
def Obligations.EncodingFunctionPlacesFields : Prop :=
  (∀ (opc : BitVec 8) (row col value : Nat), row < 256 → col < 256 → value < 256 →
    (enc opc row col value).toNat = value * 2 ^ 24 + col * 2 ^ 16 + row * 2 ^ 8 + opc.toNat) ∧
  encode (.set 7 3 1) = 0x01030703 ∧ encode (.get 3 3) = 0x00030302 ∧ encode .grav = 0x00000004

/-- R57, R63: words of 95_test_vectors.md written out decode to the commands they stand for. -/
def Obligations.WrittenWordsDecode : Prop :=
  decode 0x00000001 = .ok .clr ∧ decode 0x00C80002 = .ok (.get 0 200) ∧
  decode 0x02070703 = .ok (.set 7 7 2) ∧ decode 0xFFFFFF03 = .ok (.set 255 255 255) ∧
  decode 0x00000004 = .ok .grav ∧ decode 0x00000005 = .ok .gpass ∧ decode 0x00000006 = .ok .xpose ∧
  decode 0x00000007 = .ok .rdlo ∧ decode 0x00000008 = .ok .rdhi

/-! ### Errors -/

/-- R59, R98: a word whose opcode is 0x00 or in 0x09 to 0xFF completes with ERR_OPC (2) and data 0, and changes no
plane. -/
def Obligations.IllegalOpcodesCompleteWithErrOpc : Prop :=
  ∀ (w : Cmd) (s : State), cmdOpc w = 0 ∨ 9 ≤ (cmdOpc w).toNat →
    ∃ h, runHeld w s = .next { s with phase := .resp, rspStatus := 2, rspData := 0, held := h }

/-- R99: a nonzero reserved field completes with ERR_RSV (3) and data 0, and changes no plane; SET has no reserved
field. -/
def Obligations.ReservedFieldsCompleteWithErrRsv : Prop :=
  (∀ (w : Cmd) (s : State),
    (cmdOpc w ∈ [0x01#8, 0x04#8, 0x05#8, 0x06#8, 0x07#8, 0x08#8] ∧ w >>> 8 ≠ 0) ∨
      (cmdOpc w = 0x02 ∧ w >>> 24 ≠ 0) →
    ∃ h, runHeld w s = .next { s with phase := .resp, rspStatus := 3, rspData := 0, held := h }) ∧
  ∀ w : Cmd, cmdOpc w = 0x03 → decode w ≠ .error .reservedField

/-- R95, R100: the status of every command word, by the priority ERR_OPC, ERR_RSV, ERR_ARG, from the word as a
number. -/
def Obligations.StatusFollowsErrorPriority : Prop :=
  ∀ (w : Cmd) (s : State),
    let opc := w.toNat % 256
    let row := w.toNat / 2 ^ 8 % 256
    let col := w.toNat / 2 ^ 16 % 256
    let val := w.toNat / 2 ^ 24
    ∃ t, runHeld w s = .next t ∧
      t.rspStatus =
        if opc = 0 ∨ 8 < opc then 2
        else if (opc = 2 ∧ val ≠ 0) ∨ (opc ≠ 2 ∧ opc ≠ 3 ∧ w.toNat / 2 ^ 8 ≠ 0) then 3
        else if ((opc = 2 ∨ opc = 3) ∧ (8 ≤ row ∨ 8 ≤ col)) ∨ (opc = 3 ∧ 4 ≤ val) then 1
        else 0

/-- R96: a command that completes with another status than OK changes no plane, responds with data 0 and leaves no
record beyond its response: every later command gives what it would have given without it. -/
def Obligations.ErrorsChangeNothing : Prop :=
  ∀ (w : Cmd) (s t : State), runHeld w s = .next t → t.rspStatus ≠ 0 →
    t = { s with phase := .resp, rspStatus := t.rspStatus, rspData := 0, held := t.held } ∧
    ∀ (w' : Cmd) (d : Word), transact t.grid w' d = transact s.grid w' d

/-- R60: a word that matches no row of the table completes with ERR_OPC or ERR_RSV. -/
def Obligations.UnmatchedWordsCompleteWithError : Prop :=
  ∀ (w : Cmd) (s : State), (∀ row ∈ opcodeTable, w &&& row.mask ≠ row.pattern) →
    ∃ t, runHeld w s = .next t ∧ (t.rspStatus = 2 ∨ t.rspStatus = 3) ∧ t.rspData = 0 ∧ t.grid = s.grid

/-- R97: GET and SET with an argument out of range complete with ERR_ARG (1) and data 0 and change no plane. -/
def Obligations.OutOfRangeArgumentsGiveErrArg : Prop :=
  (∀ (row col : Nat) (s : State), 8 ≤ row ∨ 8 ≤ col →
    ∃ h, exec (.get row col) s = .next { s with phase := .resp, rspStatus := 1, rspData := 0, held := h }) ∧
  ∀ (row col value : Nat) (s : State), 8 ≤ row ∨ 8 ≤ col ∨ 4 ≤ value →
    ∃ h, exec (.set row col value) s =
      .next { s with phase := .resp, rspStatus := 1, rspData := 0, held := h }

/-! ### Cell access -/

/-- R65: CLR completes with OK and data 0; both planes are 0, and nothing else but the response changes. The discarded
sequencer is the model's choice (log entry 7). -/
def Obligations.ClrEmptiesTheBoard : Prop :=
  ∀ s : State, exec .clr s =
    .next { s with
      grid := ⟨0, 0⟩, phase := .resp, rspStatus := 0, rspData := 0, held := Held.discarded }

/-- R66: GET in range completes with OK and the cell's two bits, zero-extended; nothing else but the response
changes. The discarded
sequencer is the model's choice (log entry 7). -/
def Obligations.GetReturnsTheCell : Prop :=
  ∀ (row col : Nat) (s : State), row < 8 → col < 8 →
    exec (.get row col) s =
      .next { s with
        phase := .resp
        rspStatus := 0
        rspData := BitVec.ofNat 64
          (2 * (s.grid.hi.getLsbD (row * 8 + col)).toNat + (s.grid.lo.getLsbD (row * 8 + col)).toNat)
        held := Held.discarded }

/-- R67: SET in range completes with OK and data 0; bit `i` of LO becomes the value's bit 0 and bit `i` of HI its bit 1,
every other plane bit and everything else but the response is unchanged. The discarded
sequencer is the model's choice (log entry 7). -/
def Obligations.SetAssignsOneCell : Prop :=
  ∀ (row col value : Nat) (s : State), row < 8 → col < 8 → value < 4 →
    ∃ lo hi : Word,
      exec (.set row col value) s =
        .next { s with
          grid := ⟨lo, hi⟩, phase := .resp, rspStatus := 0, rspData := 0, held := Held.discarded } ∧
      ∀ j, j < 64 →
        lo.getLsbD j = (if j = row * 8 + col then value.testBit 0 else s.grid.lo.getLsbD j) ∧
        hi.getLsbD j = (if j = row * 8 + col then value.testBit 1 else s.grid.hi.getLsbD j)

/-- R68, R69: RDLO and RDHI complete with OK and the plane; nothing else but the response changes. The discarded
sequencer is the model's choice (log entry 7). -/
def Obligations.PlaneReadsReturnThePlane : Prop :=
  ∀ s : State,
    exec .rdlo s =
      .next { s with phase := .resp, rspStatus := 0, rspData := s.grid.lo, held := Held.discarded } ∧
    exec .rdhi s =
      .next { s with phase := .resp, rspStatus := 0, rspData := s.grid.hi, held := Held.discarded }

/-- R70: `SET r, c, v` then `GET r, c` gives `(OK, v)`; GET of any other cell gives what that cell had before. -/
def Obligations.GetAfterSetReadsTheValue : Prop :=
  ∀ (r c v : Nat) (s : State), r < 8 → c < 8 → v < 4 →
    ∃ t, exec (.set r c v) s = .next t ∧
      (∃ u, exec (.get r c) t = .next u ∧ u.rspStatus = 0 ∧ u.rspData = BitVec.ofNat 64 v) ∧
      ∀ r' c', r' < 8 → c' < 8 → (r', c') ≠ (r, c) →
        ∃ u, exec (.get r' c') t = .next u ∧ u.rspStatus = 0 ∧
          u.rspData = (s.grid.cell r' c').setWidth 64

/-- R71: after `SET r, c, v`, bit `i` of RDLO is `v & 1` and bit `i` of RDHI is `v >> 1`. -/
def Obligations.PlaneReadsShowASetCell : Prop :=
  ∀ (r c v : Nat) (s : State), r < 8 → c < 8 → v < 4 →
    ∃ t l h, exec (.set r c v) s = .next t ∧ exec .rdlo t = .next l ∧ exec .rdhi t = .next h ∧
      (l.rspData.getLsbD (r * 8 + c)).toNat = v % 2 ∧ (h.rspData.getLsbD (r * 8 + c)).toNat = v / 2

/-- R37, R89: SET, CLR and GRAV are idempotent on the planes, and a second GRAV responds `(OK, 0)`. -/
def Obligations.SetClrGravAreIdempotent : Prop :=
  ∀ s : State,
    (∀ r c v, ∃ t u, exec (.set r c v) s = .next t ∧ exec (.set r c v) t = .next u ∧ u.grid = t.grid) ∧
    (∃ t u, exec .clr s = .next t ∧ exec .clr t = .next u ∧ u.grid = t.grid) ∧
    ∃ t u, exec .grav s = .next t ∧ exec .grav t = .next u ∧ u.grid = t.grid ∧
      u.rspStatus = 0 ∧ u.rspData = 0

/-- R36: GET, RDLO, RDHI and XPOSE change no plane, and issued again with no other command between (the planes and the
data operand as they were) they give the same response. -/
def Obligations.ReadingCommandsHaveNoSideEffects : Prop :=
  ∀ (i : Instr) (s : State), ((∃ r c, i = .get r c) ∨ i = .rdlo ∨ i = .rdhi ∨ i = .xpose) →
    ∃ t, exec i s = .next t ∧ t.grid = s.grid ∧
      ∀ u : State, u.grid = t.grid → u.held.data = s.held.data →
        ∃ v, exec i u = .next v ∧ v.rspStatus = t.rspStatus ∧ v.rspData = t.rspData

/-- R15: `HI[i]` is the cell's high bit and `LO[i]` its low bit; and the cells say all of the planes (R16). -/
def Obligations.CellsAndPlanesAreTwoViews : Prop :=
  (∀ (g : Grid) (r c : Nat), r < 8 → c < 8 →
    (g.cell r c).toNat = 2 * (g.hi.getLsbD (r * 8 + c)).toNat + (g.lo.getLsbD (r * 8 + c)).toNat) ∧
  (∀ i, i < 64 → ∃! p : Nat × Nat, p.1 < 8 ∧ p.2 < 8 ∧ p.1 * 8 + p.2 = i) ∧
  ∀ g h : Grid, (∀ r c, r < 8 → c < 8 → g.cell r c = h.cell r c) → g = h

/-- R17: only CLR, SET, GRAV and GPASS change the planes, and SET changes no cell but its own. -/
def Obligations.OnlyFourCommandsChangePlanes : Prop :=
  ∀ (i : Instr) (s t : State), exec i s = .next t →
    (t.grid ≠ s.grid → i = .clr ∨ i = .grav ∨ i = .gpass ∨ ∃ r c v, i = .set r c v) ∧
    ∀ r c v, i = .set r c v → ∀ r' c', r' < 8 → c' < 8 → (r', c') ≠ (r, c) →
      t.grid.cell r' c' = s.grid.cell r' c'

/-- R57, R44: a command other than XPOSE has the same meaning for every value of `req_data`. -/
def Obligations.OnlyXposeReadsTheDataOperand : Prop :=
  ∀ (i : Instr) (s : State) (d : Word), i ≠ .xpose →
    exec i { s with held := { s.held with data := d } } = exec i s

/-! ### Gravity -/

/-- R10: the bits each mask selects. -/
def Obligations.MasksSelectRowsAndColumns : Prop :=
  ∀ r c i, r < 8 → c < 8 → i < 64 →
    ((rowMask r).getLsbD i = true ↔ i / 8 = r) ∧
    ((colMask c).getLsbD i = true ↔ i % 8 = c) ∧
    ((cellBit r c).getLsbD i = true ↔ i = r * 8 + c) ∧
    ((belowMask r c).getLsbD i = true ↔ i % 8 = c ∧ i / 8 < r) ∧
    (r ≤ 6 → ((aboveMask r c).getLsbD i = true ↔ i % 8 = c ∧ r < i / 8))

/-- R11 (93 K1): `x & -x` is the lowest set bit of `x`, or 0 when `x = 0`. -/
def Obligations.LowestSetBitIsIsolated : Prop :=
  lowestSet 0 = 0 ∧
  ∀ (x : Word) (i : Nat), x.getLsbD i = true → (∀ j, j < i → x.getLsbD j = false) → lowestSet x = 1#64 <<< i

/-- R74, R75, R76, in terms of cells: in row-step `r`, column `c`, the lowest piece above an empty cell with every cell
below it occupied goes one row down, into an empty cell, with its value, and nothing else changes; where the cell is no
target or has no piece above it, nothing moves. -/
def Obligations.ColumnStepDropsTheLowestPieceAbove : Prop :=
  ∀ (g : Grid) (m r c : Nat), r < 7 → c < 8 →
    let target := g.cell r c = 0 ∧ ∀ k, k < r → g.cell k c ≠ 0
    let after := columnStep .allBelow g.occ r (g, m) c
    (¬ (target ∧ ∃ a, r < a ∧ a < 8 ∧ g.cell a c ≠ 0) → after = (g, m)) ∧
    ∀ a, target → r < a → a < 8 → g.cell a c ≠ 0 → (∀ k, r < k → k < a → g.cell k c = 0) →
      after.2 = m + 1 ∧ g.cell (a - 1) c = 0 ∧
      ∀ r' c', r' < 8 → c' < 8 →
        after.1.cell r' c' =
          if (r', c') = (a - 1, c) then g.cell a c else if (r', c') = (a, c) then 0 else g.cell r' c'

/-- R77: within a row-step the snapshot and the live planes agree for every column when it is examined, and the order of
the columns does not change the result. -/
def Obligations.ColumnOrderAndSnapshotDoNotMatter : Prop :=
  ∀ (gm : Grid × Nat) (r : Nat), r < 7 →
    (∀ l : List Nat, l.Perm (List.range 8) →
      l.foldl (columnStep .allBelow gm.1.occ r) gm = rowStep .allBelow gm r) ∧
    (List.range 8).foldl (fun now c => columnStep .allBelow now.1.occ r now c) gm = rowStep .allBelow gm r

/-- R78: a row-step is the bit-parallel update of all eight columns, and its moves are `popcount(S)`. -/
def Obligations.RowStepEqualsParallelForm : Prop :=
  ∀ (g : Grid) (m r : Nat), r < 7 →
    rowStep .allBelow (g, m) r =
      ((rowStepParallel .allBelow g r).1, m + (rowStepParallel .allBelow g r).2)

/-- R81: GPASS completes with OK and the move count of one pass; the planes are those after the pass, and nothing else
but the response changes. The discarded
sequencer is the model's choice (log entry 7). -/
def Obligations.GpassCompletesWithOnePass : Prop :=
  ∀ s : State, exec .gpass s =
    .next { s with
      grid := (gpass s.grid).1, phase := .resp, rspStatus := 0
      rspData := BitVec.ofNat 64 (gpass s.grid).2, held := Held.discarded }

/-- R82, R88: GRAV completes with OK; its planes are those after the first `p` passes that move, the next pass moves
nothing, and the response is `p`: the number of GPASS commands that respond nonzero before the first that responds 0. The discarded
sequencer is the model's choice (log entry 7). -/
def Obligations.GravRunsPassesToTheFixedPoint : Prop :=
  ∀ s : State, ∃ p,
    (∀ k, k < p → (gpass (passes k s.grid)).2 ≠ 0) ∧ (gpass (passes p s.grid)).2 = 0 ∧
    exec .grav s =
      .next { s with
        grid := passes p s.grid, phase := .resp, rspStatus := 0
        rspData := BitVec.ofNat 64 p, held := Held.discarded }

/-- R73: which nonzero value a cell holds makes no difference to where pieces go or to the counts. -/
def Obligations.GravitySeesOnlyOccupancy : Prop :=
  ∀ g h : Grid, g.occ = h.occ →
    (gpass g).1.occ = (gpass h).1.occ ∧ (gpass g).2 = (gpass h).2 ∧ (gravity g).2 = (gravity h).2

/-- R83: one column of a row-step makes one move or none, and lowers the sum of the row indices of the occupied cells by
exactly as many; so a pass lowers it by exactly its move count. -/
def Obligations.MovesLowerTheRowIndexSum : Prop :=
  (∀ (g : Grid) (m r c : Nat), r < 7 → c < 8 →
    let after := columnStep .allBelow g.occ r (g, m) c
    (after.2 = m ∧ rowIndexSum after.1 = rowIndexSum g) ∨
      (after.2 = m + 1 ∧ rowIndexSum after.1 + 1 = rowIndexSum g)) ∧
  ∀ g : Grid, rowIndexSum (gpass g).1 + (gpass g).2 = rowIndexSum g

/-- R83, R88: in one pass the pieces of a column keep their order and their values, and each goes down by at most one
row. -/
def Obligations.PassKeepsPiecesInOrder : Prop :=
  ∀ (g : Grid) (c : Nat), c < 8 →
    List.Forall₂ (fun before after => after.2 = before.2 ∧ (after.1 = before.1 ∨ after.1 + 1 = before.1))
      (g.pieces c) ((gpass g).1.pieces c)

/-- R84: a pass makes zero moves iff every column is compacted. -/
def Obligations.PassMovesNothingIffSettled : Prop :=
  ∀ g : Grid, ((gpass g).2 = 0 ↔ g.Settled) ∧ ((gpass g).2 = 0 → (gpass g).1 = g)

/-- R72: after GRAV every column holds its occupied cells at rows 0 to k-1 in their order and with their values, and empty
cells above. -/
def Obligations.GravCompactsEveryColumn : Prop :=
  ∀ s : State, ∃ t, exec .grav s = .next t ∧
    ∀ c, c < 8 → t.grid.column c = compactColumn (s.grid.column c)

/-- R85 (93 U15): the final planes do not depend on the target rule. -/
def Obligations.FinalPlanesDoNotDependOnTargetRule : Prop :=
  ∀ g : Grid, (gravityUnder .directlyBelow g).1 = (gravityUnder .allBelow g).1 ∧
    (gravity g).1 = (gravityUnder .allBelow g).1

/-- R86: columns are independent in every pass, and GRAV's response is the greatest of its columns' responses. -/
def Obligations.ColumnsAreIndependent : Prop :=
  ∀ g : Grid,
    (∀ c, c < 8 → (gpass g).1.onlyColumn c = (gpass (g.onlyColumn c)).1) ∧
    (∀ c, c < 8 → (gravity (g.onlyColumn c)).2 ≤ (gravity g).2) ∧
    ∃ c, c < 8 ∧ (gravity g).2 = (gravity (g.onlyColumn c)).2

/-- R87: the bounds on moving passes and moves, the pass without a move that ends the moving ones (so 14 passes in all), and
the worst cases that reach the bounds. -/
def Obligations.GravityBounds : Prop :=
  (∀ g : Grid,
    (gravity g).2 ≤ 13 ∧ (gpass (passes (gravity g).2 g)).2 = 0 ∧ (gpass g).2 ≤ 56 ∧
    ((List.range (gravity g).2).map fun k => (gpass (passes k g)).2).sum ≤ 128 ∧
    ∀ c, c < 8 →
      (gpass (g.onlyColumn c)).2 ≤ 7 ∧
      ((List.range (gravity (g.onlyColumn c)).2).map fun k => (gpass (passes k (g.onlyColumn c))).2).sum ≤ 16) ∧
  (gravity ⟨0x0400040000000000, 0x0404000000000000⟩).2 = 13 ∧
  (gpass ⟨0, 0x1010101010101000⟩).2 = 7 ∧ (gpass ⟨0xFFFFFFFFFFFFFF00, 0⟩).2 = 56

/-! ### Transpose -/

/-- R90: XPOSE completes with OK and the transpose of the data operand; nothing else but the response changes. The discarded
sequencer is the model's choice (log entry 7). -/
def Obligations.XposeTransposesTheOperand : Prop :=
  ∀ s : State, ∃ out : Word,
    exec .xpose s =
      .next { s with phase := .resp, rspStatus := 0, rspData := out, held := Held.discarded } ∧
    ∀ r c, r < 8 → c < 8 → out.getLsbD (r * 8 + c) = s.held.data.getLsbD (c * 8 + r)

/-- R93: XPOSE neither reads nor writes the planes; its response depends on `req_data` alone. -/
def Obligations.XposeIgnoresThePlanes : Prop :=
  ∀ s s' : State, s.held.data = s'.held.data →
    ∃ t t', exec .xpose s = .next t ∧ exec .xpose s' = .next t' ∧ t.grid = s.grid ∧ t'.grid = s'.grid ∧
      t.rspStatus = t'.rspStatus ∧ t.rspData = t'.rspData

/-- R91: the reference network of three delta-swap stages computes the transpose. -/
def Obligations.NetworkComputesTranspose : Prop :=
  ∀ m : Word, transposeNetwork m = transpose m

/-- R92: stage `j` exchanges index bits `r_j` and `c_j`, its mask is the cells with `r_j = 1` and `c_j = 0`, its distance
is `7·2^j`, it is its own inverse, and the stages in any order give the transpose. -/
def Obligations.StagesExchangeIndexBits : Prop :=
  (∀ st ∈ [(0, maskK1, 7), (1, maskK2, 14), (2, maskK4, 28)],
    st.2.2 = 7 * 2 ^ st.1 ∧
    (∀ i, i < 64 → st.2.1.getLsbD i = (i.testBit (st.1 + 3) && !i.testBit st.1)) ∧
    ∀ m : Word,
      deltaSwap st.2.1 st.2.2 (deltaSwap st.2.1 st.2.2 m) = m ∧
      ∀ i, i < 64 → (deltaSwap st.2.1 st.2.2 m).getLsbD i =
        m.getLsbD (if i.testBit st.1 = i.testBit (st.1 + 3) then i else i ^^^ (2 ^ st.1 + 2 ^ (st.1 + 3)))) ∧
  ∀ stages : List (Word × Nat), stages.Perm [(maskK1, 7), (maskK2, 14), (maskK4, 28)] →
    ∀ m : Word, stages.foldl (fun x st => deltaSwap st.1 st.2 x) m = transpose m

/-- R94: involution, single bits, fixed points, popcount, and rows to columns. -/
def Obligations.TransposeLaws : Prop :=
  (∀ m : Word,
    transpose (transpose m) = m ∧
    (transpose m = m ↔ ∀ r c, r < 8 → c < 8 → m.getLsbD (r * 8 + c) = m.getLsbD (c * 8 + r)) ∧
    popcount (transpose m) = popcount m ∧
    ∀ r c, r < 8 → c < 8 → (transpose m).getLsbD (c * 8 + r) = (byteLane r m).getLsbD c) ∧
  (∀ r c, r < 8 → c < 8 → transpose (1#64 <<< (r * 8 + c)) = 1#64 <<< (c * 8 + r)) ∧
  transpose 0x8142241818244281 = 0x8142241818244281

/-! ### The step -/

/-- R49, R58: at the completion edge the step is `exec` of the command the captured word decodes to, or the raising of
the word's error status; around it the step passes the edge and keeps the request the host now drives. The discarded
sequencer is the model's choice (log entry 7). -/
def Obligations.StepRunsTheHeldCommand : Prop :=
  ∀ (s : State) (p : Pins) (rest : List Event), s.CompletesAt p rest →
    (∀ i, decode s.held.cmd = .ok i →
      step s = exec i { s with tick := s.tick + 1, events := rest, offered := p.request }) ∧
    ∀ e, decode s.held.cmd = .error e →
      step s = .next
        { s with
          tick := s.tick + 1, events := rest, offered := p.request, phase := .resp
          rspStatus := (decodeErrorStatus e).code, rspData := 0, held := Held.discarded }

/-- R48, R49: in IDLE a request at an edge with `rst = 0` is accepted: the word and the data operand are captured,
`PHASE` is BUSY, and the completion edge is `L` edges on, `1 ≤ L ≤ LAT(op)`. The sequencer's progress is any value. -/
def Obligations.IdleBlockAcceptsARequest : Prop :=
  ∀ (s : State) (p : Pins) (rest : List Event),
    s.events = .edge p :: rest → hostBreach p s = none → p.rst = false → s.needsReset = false →
    s.phase = .idle → p.reqValid = true →
    ∃ (L : Nat) (progress : Progress), 1 ≤ L ∧ L ≤ Config.lat (cmdOpc p.reqCmd) s.grid.lo s.grid.hi ∧
      step s = .next
        { s with
          tick := s.tick + 1, events := rest, offered := none, phase := .busy
          held := ⟨p.reqCmd, p.reqData, L, progress⟩ }

/-- R48, R49, R50, R51: the other edges with `rst = 0`: without a request IDLE stays; BUSY before its completion edge
counts an edge and accepts nothing; RESP goes to IDLE when the response is taken, and else holds it. -/
def Obligations.OtherEdgesHoldOrRelease : Prop :=
  ∀ (s : State) (p : Pins) (rest : List Event),
    s.events = .edge p :: rest → hostBreach p s = none → p.rst = false → s.needsReset = false →
    (s.phase = .idle → p.reqValid = false →
      step s = .next { s with tick := s.tick + 1, events := rest, offered := none }) ∧
    (s.phase = .busy → 1 < s.held.edgesLeft →
      ∃ progress : Progress, step s = .next
        { s with
          tick := s.tick + 1, events := rest, offered := p.request
          held := ⟨s.held.cmd, s.held.data, s.held.edgesLeft - 1, progress⟩ }) ∧
    (s.phase = .resp → p.rspReady = true →
      step s = .next { s with tick := s.tick + 1, events := rest, offered := p.request, phase := .idle }) ∧
    (s.phase = .resp → p.rspReady = false →
      step s = .next { s with tick := s.tick + 1, events := rest, offered := p.request })

/-- R47 (and the defined part of R50): `req_ready = 1` iff `PHASE = IDLE` and `rst = 0`; `rsp_valid = 1` iff
`PHASE = RESP`, and then the response wires carry the response registers. -/
def Obligations.OutputPortsFollowPhase : Prop :=
  ∀ (s : State) (rst : Bool),
    (s.reqReady rst = true ↔ s.phase = .idle ∧ rst = false) ∧
    (s.rspValid = true ↔ s.phase = .resp) ∧
    (s.rspValid = true → s.rspStatusPort = s.rspStatus ∧ s.rspDataPort = s.rspData)

/-- R111: a reset edge, from any phase, empties the board, makes `PHASE` IDLE and discards the sequencer's state; the
response registers are left unspecified. That a discarded sequencer reads as `Held.discarded` is the model's choice (log
entry 7), and so is the record `offered` of the request on the channel (log entry 8). -/
def Obligations.ResetEdgeEmptiesTheBlock : Prop :=
  ∀ (s : State) (p : Pins) (rest : List Event),
    s.events = .edge p :: rest → hostBreach p s = none → p.rst = true →
    ∃ (st : BitVec 2) (d : Word),
      step s = .next
        { s with
          grid := ⟨0, 0⟩, phase := .idle, held := Held.discarded, rspStatus := st, rspData := d
          tick := s.tick + 1, events := rest, offered := p.request, needsReset := false }

/-- R113: while `rst = 1`, `req_ready = 0`; after a reset edge, at the first edge with `rst = 0`, `PHASE` is IDLE,
`rsp_valid = 0` and `req_ready = 1`. -/
def Obligations.BlockIsReadyAfterReset : Prop :=
  (∀ s : State, s.reqReady true = false) ∧
  ∀ (s t : State) (p : Pins) (rest : List Event),
    s.events = .edge p :: rest → p.rst = true → step s = .next t →
    t.phase = .idle ∧ t.rspValid = false ∧ t.reqReady false = true

/-- R52, R50, R116 (93 U4, U5, U7): a run in which the host withdraws or changes a request that was not accepted, samples
a response that is not valid, drives `rsp_ready` from block outputs, or presents a request after power-up before any reset
edge, is refused by that name. The names, and which one stands where several duties are broken, are the model's choice
(log entries 8, 9, 10, 11, 13). -/
def Obligations.BrokenHostDutiesAreRefused : Prop :=
  ∀ (s : State) (p : Pins) (rest : List Event), s.events = .edge p :: rest →
    (∀ q, s.offered = some q → p.request ≠ some q → step s = .refused .requestNotHeld) ∧
    ((s.offered = none ∨ p.request = s.offered) →
      (p.samplesRsp = true → s.phase ≠ .resp → step s = .refused .sampledWithoutValid) ∧
      ((p.samplesRsp = true → s.phase = .resp) →
        (p.readyFromOutputs = true → step s = .refused .readyFromOutputs) ∧
        (p.readyFromOutputs = false → s.needsReset = true → p.reqValid = true → p.rst = false →
          step s = .refused .requestBeforeReset)))

/-- R101, R103, R120: while the host keeps its duties every step answers a next state: the block has no trap and no
hang. -/
def Obligations.DutifulHostIsNeverRefused : Prop :=
  ∀ s : State, HostKeepsDuties s → SafeStep s

/-- R110: with no edge to come, `clk` is stopped, and every register holds. That an empty event list means a stopped
clock is the model's choice (log entry 2). -/
def Obligations.StoppedClockHoldsEverything : Prop :=
  ∀ s : State, s.events = [] → step s = .next s

/-- R110, R116 (93 U8): after a loss of power every register is unspecified, and stays so at each edge with `rst = 0`
before the next reset edge; only a reset edge ends the wait. The event and the flag are the model's (log entry 11). -/
def Obligations.PowerLossLeavesRegistersUnspecified : Prop :=
  (∀ (s : State) (rest : List Event), s.events = .powerLoss :: rest →
    ∃ (g : Grid) (ph : Phase) (st : BitVec 2) (d : Word) (h : Held),
      step s = .next ⟨g, ph, st, d, h, s.tick + 1, rest, none, true⟩) ∧
  (∀ (s : State) (p : Pins) (rest : List Event),
    s.events = .edge p :: rest → hostBreach p s = none → p.rst = false → s.needsReset = true →
    ∃ (g : Grid) (ph : Phase) (st : BitVec 2) (d : Word) (h : Held),
      step s = .next ⟨g, ph, st, d, h, s.tick + 1, rest, p.request, true⟩) ∧
  ∀ s t : State, s.needsReset = true → step s = .next t → t.needsReset = false →
    ∃ p rest, s.events = .edge p :: rest ∧ p.rst = true

/-- R21, R23, R49, R96: every step keeps the legal states legal: while BUSY between 1 and `LAT(op)` edges are left, no
command is held otherwise, and a response with another status than OK has data 0. That a discarded or finished command
reads as zeros is the model's choice (log entry 7). -/
def Obligations.EveryStepKeepsLegality : Prop :=
  ∀ s t : State, s.Legal → step s = .next t → t.Legal

/-- R20, R21, R111: the state after reset is legal, its board is empty and its `PHASE` is IDLE. -/
def Obligations.ResetStateIsLegal : Prop :=
  State.reset.Legal ∧ State.reset.grid = ⟨0, 0⟩ ∧ State.reset.phase = .idle

/-- R33, R45, R49: the planes change only at the completion edge of a command, at a reset edge, at a loss of power, or
while the block waits for its first reset. -/
def Obligations.PlanesChangeOnlyAtCompletionOrReset : Prop :=
  ∀ s t : State, step s = .next t → t.grid ≠ s.grid →
    (∃ p rest, s.CompletesAt p rest) ∨ (∃ p rest, s.events = .edge p :: rest ∧ p.rst = true) ∨
      (∃ rest, s.events = .powerLoss :: rest) ∨ s.needsReset = true

/-- R53: at the completion edge the planes, the status and the data are a function of the planes, the command word and
the data operand, whatever the timing and the rest of the state. -/
def Obligations.CompletionIsTheTransactionFunction : Prop :=
  ∀ (s : State) (p : Pins) (rest : List Event), s.CompletesAt p rest →
    ∃ t, step s = .next t ∧ t.phase = .resp ∧
      transact s.grid s.held.cmd s.held.data = .next (t.grid, t.rspStatus, t.rspData)

/-- R49, R120: an accepted command completes after `L` edges, `1 ≤ L ≤ LAT(op)`, if no reset comes: before that the planes
are as they were and no response is shown; at that edge the response is the transaction function's. A host that is
quiet meanwhile is never refused. -/
def Obligations.AcceptedCommandCompletesWithinLatency : Prop :=
  ∀ (s : State) (p : Pins) (tail : List Event),
    s.events = .edge p :: tail → hostBreach p s = none → p.rst = false → s.needsReset = false →
    s.phase = .idle → p.reqValid = true →
    ∃ L, 1 ≤ L ∧ L ≤ Config.lat (cmdOpc p.reqCmd) s.grid.lo s.grid.hi ∧
      ∀ (es : List Pins) (rest : List Event), tail = es.map .edge ++ rest → (∀ q ∈ es, q.rst = false) →
        ((∀ q ∈ es, q.reqValid = false ∧ q.samplesRsp = false ∧ q.readyFromOutputs = false) → es.length ≤ L →
          ∃ t, runSteps (es.length + 1) s = .next t) ∧
        ∀ t, runSteps (es.length + 1) s = .next t →
          (es.length < L → t.phase = .busy ∧ t.grid = s.grid) ∧
          (es.length = L → t.phase = .resp ∧
            transact s.grid p.reqCmd p.reqData = .next (t.grid, t.rspStatus, t.rspData))

/-! ### The assembler -/

/-- R63, R64: the requests of the assembler's commands, and no command for an operand that does not fit its field. That a
command without a data operand fixes none (`none`), and the limits 2^32 and 2^64 of `.word` and of a `#` literal, are the
model's choice (log entry 20). -/
def Obligations.AssemblerGivesTheEncodedWords : Prop :=
  ∀ r c v m w : Nat,
    asmRequest "get".toList [(false, r), (false, c)] =
      (if r < 256 ∧ c < 256 then .ok ⟨enc 0x02 r c 0, none⟩ else .error .operandOutOfRange) ∧
    asmRequest "set".toList [(false, r), (false, c), (false, v)] =
      (if r < 256 ∧ c < 256 ∧ v < 256 then .ok ⟨enc 0x03 r c v, none⟩ else .error .operandOutOfRange) ∧
    asmRequest "clrcell".toList [(false, r), (false, c)] =
      asmRequest "set".toList [(false, r), (false, c), (false, 0)] ∧
    asmRequest "xpose".toList [(true, m)] =
      (if m < 2 ^ 64 then .ok ⟨enc 0x06 0 0 0, some (BitVec.ofNat 64 m)⟩ else .error .operandOutOfRange) ∧
    asmRequest ".word".toList [(false, w)] =
      (if w < 2 ^ 32 then .ok ⟨BitVec.ofNat 32 w, some 0⟩ else .error .operandOutOfRange) ∧
    asmRequest ".word".toList [(false, w), (true, m)] =
      (if w < 2 ^ 32 ∧ m < 2 ^ 64 then .ok ⟨BitVec.ofNat 32 w, some (BitVec.ofNat 64 m)⟩
       else .error .operandOutOfRange) ∧
    asmRequest "clr".toList [] = .ok ⟨enc 0x01 0 0 0, none⟩ ∧
    asmRequest "grav".toList [] = .ok ⟨enc 0x04 0 0 0, none⟩ ∧
    asmRequest "gpass".toList [] = .ok ⟨enc 0x05 0 0 0, none⟩ ∧
    asmRequest "rdlo".toList [] = .ok ⟨enc 0x07 0 0 0, none⟩ ∧
    asmRequest "rdhi".toList [] = .ok ⟨enc 0x08 0 0 0, none⟩
end

