-- ==== Sys2Proof/Laws/Decode.lean ====
section
/-! SUPPORT. The fields of an encoded word, and all that decode can answer (spec/30_encoding.md R54, R58, R62). -/

namespace Sys2Proof

/-- Bit by bit, the encoding function places each argument in its field (R54, R62). -/
theorem enc_getLsbD (opc : BitVec 8) (row col value k : Nat) (hr : row < 256) (hc : col < 256) :
    (enc opc row col value).getLsbD k =
      (if k < 8 then opc.getLsbD k
       else if k < 16 then row.testBit (k - 8)
       else if k < 24 then col.testBit (k - 16)
       else if k < 32 then value.testBit (k - 24) else false) := by
  have big : ∀ n j, n < 256 → 8 ≤ j → n.testBit j = false := fun n j hn hj =>
    Nat.testBit_lt_two_pow (lt_of_lt_of_le hn (by
      calc 256 = 2 ^ 8 := rfl
        _ ≤ 2 ^ j := Nat.pow_le_pow_right (by omega) hj))
  have opcBig : ∀ j, 8 ≤ j → opc.getLsbD j = false := fun j hj => BitVec.getLsbD_of_ge _ _ hj
  simp only [enc, BitVec.getLsbD_or, BitVec.getLsbD_shiftLeft, BitVec.getLsbD_setWidth,
    BitVec.getLsbD_ofNat]
  split_ifs with h1 h2 h3 h4
  · simp [h1, show k < 16 by omega, show k < 24 by omega, show k < 32 by omega]
  · simp [h1, h2, show k < 24 by omega, show k < 32 by omega, show k - 8 < 32 by omega,
      opcBig k (by omega)]
  · simp [h1, h2, h3, show k < 32 by omega, show k - 16 < 32 by omega, opcBig k (by omega),
      big row (k - 8) hr (by omega)]
  · simp [h1, h2, h3, h4, show k - 24 < 32 by omega, opcBig k (by omega),
      big row (k - 8) hr (by omega), big col (k - 16) hc (by omega)]
  · simp [h4]

/-- An 8-bit field that reads, bit by bit, as a number below 256 is that number. -/
theorem field_eq_ofNat (f : BitVec 8) (n : Nat) (h : ∀ k, k < 8 → f.getLsbD k = n.testBit k) :
    f = BitVec.ofNat 8 n := by
  apply BitVec.eq_of_getLsbD_eq
  intro k hk
  rw [h k hk, BitVec.getLsbD_ofNat]
  simp [hk]

/-- The opcode field of an encoded word. -/
theorem cmdOpc_enc (opc : BitVec 8) (row col value : Nat) (hr : row < 256) (hc : col < 256) :
    cmdOpc (enc opc row col value) = opc := by
  apply BitVec.eq_of_getLsbD_eq
  intro k hk
  simp [cmdOpc, enc_getLsbD _ _ _ _ _ hr hc, hk]

/-- The row field of an encoded word. -/
theorem cmdRow_enc (opc : BitVec 8) (row col value : Nat) (hr : row < 256) (hc : col < 256) :
    cmdRow (enc opc row col value) = BitVec.ofNat 8 row := by
  apply field_eq_ofNat
  intro k hk
  simp [cmdRow, enc_getLsbD _ _ _ _ _ hr hc, hk, show 8 + k < 16 by omega]

/-- The column field of an encoded word. -/
theorem cmdCol_enc (opc : BitVec 8) (row col value : Nat) (hr : row < 256) (hc : col < 256) :
    cmdCol (enc opc row col value) = BitVec.ofNat 8 col := by
  apply field_eq_ofNat
  intro k hk
  simp [cmdCol, enc_getLsbD _ _ _ _ _ hr hc, hk, show ¬ 16 + k < 8 by omega, show ¬ 16 + k < 16 by omega,
    show 16 + k < 24 by omega]

/-- The value field of an encoded word. -/
theorem cmdVal_enc (opc : BitVec 8) (row col value : Nat) (hr : row < 256) (hc : col < 256) :
    cmdVal (enc opc row col value) = BitVec.ofNat 8 value := by
  apply field_eq_ofNat
  intro k hk
  rw [cmdVal, BitVec.getLsbD_extractLsb', enc_getLsbD _ _ _ _ _ hr hc]
  simp [hk, show ¬ 24 + k < 8 by omega, show ¬ 24 + k < 16 by omega, show 24 + k < 32 by omega]

/-- All that decode can read as a command: the opcode, and the fields that must be zero (R57, R58). -/
theorem decode_ok_cases {w : Cmd} {i : Instr} (h : decode w = .ok i) :
    (cmdOpc w = i.opcode) ∧
      match i with
      | .get row col => cmdVal w = 0 ∧ row = (cmdRow w).toNat ∧ col = (cmdCol w).toNat
      | .set row col value =>
        row = (cmdRow w).toNat ∧ col = (cmdCol w).toNat ∧ value = (cmdVal w).toNat
      | _ => cmdArgs w = 0 := by
  unfold decode decodeBare decodeGet decodeSet at h
  split_ifs at h <;> cases h <;> simp_all [Instr.opcode]

/-- All that decode can answer with an error (R98, R99). -/
theorem decode_error_cases {w : Cmd} {e : DecodeError} (h : decode w = .error e) :
    (e = .illegalOpcode ∧ ∀ row ∈ opcodeTable, cmdOpc w ≠ row.opcode) ∨
    (e = .reservedField ∧ cmdOpc w ≠ 0x02 ∧ cmdOpc w ≠ 0x03 ∧ cmdArgs w ≠ 0) ∨
    (e = .reservedField ∧ cmdOpc w = 0x02 ∧ cmdVal w ≠ 0) := by
  unfold decode decodeBare decodeGet decodeSet at h
  split_ifs at h <;> cases h <;> simp_all [opcodeTable]

end Sys2Proof
end

