-- ==== Sys2Proof/Laws/Ops.lean ====
section
/-! SUPPORT. What the operations over the planes do, bit by bit (spec/00_scope.md R9 to R12, 10_state.md R15, R19). -/

namespace Sys2Proof.Machine

/-- Different cells have different indices (10_state.md R16). -/
theorem cellIndex_inj {r c r' c' : Nat} (hc : c < 8) (hc' : c' < 8) :
    cellIndex r c = cellIndex r' c' ↔ r = r' ∧ c = c' := by
  unfold cellIndex; omega

/-- A cell's index is below 64 (20_memory.md R28). -/
theorem cellIndex_lt {r c : Nat} (hr : r < 8) (hc : c < 8) : cellIndex r c < 64 := by
  unfold cellIndex; omega

/-- The range check of ROW and COL (60_exceptions.md R97). -/
@[simp] theorem cellInRange_iff (row col : Nat) : cellInRange row col = true ↔ row < 8 ∧ col < 8 := by
  simp [cellInRange]

/-- The range check of VAL (R97). -/
@[simp] theorem valueInRange_iff (value : Nat) : valueInRange value = true ↔ value < 4 := by
  simp [valueInRange]

/-- The data operand is the captured `req_data` (30_encoding.md R55). -/
@[simp] theorem dataOperand_eq (s : State) : s.dataOperand = s.held.data := rfl

@[simp] theorem Grid.occ_getLsbD (g : Grid) (i : Nat) :
    g.occ.getLsbD i = (g.lo.getLsbD i || g.hi.getLsbD i) := by
  simp [Grid.occ]

@[simp] theorem cellBit_getLsbD (r c i : Nat) :
    (cellBit r c).getLsbD i = (decide (i < 64) && decide (i = cellIndex r c)) := by
  simp only [cellBit, BitVec.getLsbD_shiftLeft, BitVec.getLsbD_one]
  by_cases h : i < 64 <;> by_cases e : i = cellIndex r c <;> simp [h, e]
  omega

/-- `GET`'s value by its two bits: bit 0 from `LO`, bit 1 from `HI` (10_state.md R15). -/
theorem Grid.cell_eq (g : Grid) (r c : Nat) :
    g.cell r c = BitVec.ofNat 2
      (2 * (g.hi.getLsbD (cellIndex r c)).toNat + (g.lo.getLsbD (cellIndex r c)).toNat) := by
  unfold Grid.cell
  cases g.hi.getLsbD (cellIndex r c) <;> cases g.lo.getLsbD (cellIndex r c) <;> rfl

/-- A cell is empty iff neither plane has its bit (10_state.md R18, R19). -/
theorem Grid.cell_eq_zero_iff (g : Grid) (r c : Nat) :
    g.cell r c = 0 ↔ g.occ.getLsbD (cellIndex r c) = false := by
  rw [Grid.cell_eq, Grid.occ_getLsbD]
  cases g.hi.getLsbD (cellIndex r c) <;> cases g.lo.getLsbD (cellIndex r c) <;> decide

/-- The masked assignment of one bit, all of it (40_cell_access.md R67). -/
theorem assignBit_getLsbD (plane b : Word) (i j : Nat) (hj : j < 64) :
    (assignBit plane i b).getLsbD j = if j = i then b.getLsbD 0 else plane.getLsbD j := by
  simp only [assignBit, BitVec.getLsbD_or, BitVec.getLsbD_and, BitVec.getLsbD_not,
    BitVec.getLsbD_shiftLeft, BitVec.getLsbD_one]
  by_cases e : j = i
  · subst e; simp [hj]
  · by_cases l : j < i
    · simp [hj, e, l]
    · simp [hj, e, l, show ¬ j - i = 0 by omega]

/-- One row down, all of it: a bit stays unless its cell is a source, and comes from the source one row above
(41_gravity.md R76). -/
theorem dropBits_getLsbD (plane s : Word) (j : Nat) (hj : j < 64) :
    (dropBits plane s).getLsbD j =
      ((plane.getLsbD j && !s.getLsbD j) || (plane.getLsbD (8 + j) && s.getLsbD (8 + j))) := by
  simp [dropBits, hj]

@[simp] theorem dropBits_zero (plane : Word) : dropBits plane 0 = plane := by
  apply BitVec.eq_of_getLsbD_eq
  intro j hj
  rw [dropBits_getLsbD _ _ _ hj]
  simp

@[simp] theorem Grid.drop_zero (g : Grid) : g.drop 0 = g := by
  rw [Grid.drop, dropBits_zero, dropBits_zero]

/-- Byte lane `k` bit by bit (20_memory.md R31). -/
theorem byteLane_getLsbD (k j : Nat) (x : Word) (hj : j < 8) :
    (byteLane k x).getLsbD j = x.getLsbD (8 * k + j) := by
  simp [byteLane, hj]

/-- The status codes are those of rule R95, and no two statuses share one. -/
theorem Status.code_inj {a b : Status} (h : a.code = b.code) : a = b := by
  cases a <;> cases b <;> first | rfl | (exact absurd h (by decide))

end Sys2Proof.Machine
end

