-- ==== Sys2Proof/Laws/State.lean ====
section
/-! SUPPORT. One lemma per field of State per update, so that no proof unfolds a record update. -/

namespace Sys2Proof.Machine

/-! ### completion (30_encoding.md R49) -/

@[simp] theorem State.complete_grid (s : State) (g : Grid) (st : Status) (d : Word) :
    (s.complete g st d).grid = g := rfl
@[simp] theorem State.complete_phase (s : State) (g : Grid) (st : Status) (d : Word) :
    (s.complete g st d).phase = .resp := rfl
@[simp] theorem State.complete_rspStatus (s : State) (g : Grid) (st : Status) (d : Word) :
    (s.complete g st d).rspStatus = st.code := rfl
@[simp] theorem State.complete_rspData (s : State) (g : Grid) (st : Status) (d : Word) :
    (s.complete g st d).rspData = d := rfl
@[simp] theorem State.complete_held (s : State) (g : Grid) (st : Status) (d : Word) :
    (s.complete g st d).held = Held.discarded := rfl
@[simp] theorem State.complete_tick (s : State) (g : Grid) (st : Status) (d : Word) :
    (s.complete g st d).tick = s.tick := rfl
@[simp] theorem State.complete_events (s : State) (g : Grid) (st : Status) (d : Word) :
    (s.complete g st d).events = s.events := rfl
@[simp] theorem State.complete_offered (s : State) (g : Grid) (st : Status) (d : Word) :
    (s.complete g st d).offered = s.offered := rfl
@[simp] theorem State.complete_needsReset (s : State) (g : Grid) (st : Status) (d : Word) :
    (s.complete g st d).needsReset = s.needsReset := rfl

/-! ### `respond` (00_scope.md R12) -/

@[simp] theorem State.respond_grid (s : State) (st : Status) (d : Word) :
    (s.respond st d).grid = s.grid := rfl
@[simp] theorem State.respond_phase (s : State) (st : Status) (d : Word) :
    (s.respond st d).phase = .resp := rfl
@[simp] theorem State.respond_rspStatus (s : State) (st : Status) (d : Word) :
    (s.respond st d).rspStatus = st.code := rfl
@[simp] theorem State.respond_rspData (s : State) (st : Status) (d : Word) :
    (s.respond st d).rspData = d := rfl
@[simp] theorem State.respond_held (s : State) (st : Status) (d : Word) :
    (s.respond st d).held = Held.discarded := rfl
@[simp] theorem State.respond_tick (s : State) (st : Status) (d : Word) :
    (s.respond st d).tick = s.tick := rfl
@[simp] theorem State.respond_events (s : State) (st : Status) (d : Word) :
    (s.respond st d).events = s.events := rfl
@[simp] theorem State.respond_offered (s : State) (st : Status) (d : Word) :
    (s.respond st d).offered = s.offered := rfl
@[simp] theorem State.respond_needsReset (s : State) (st : Status) (d : Word) :
    (s.respond st d).needsReset = s.needsReset := rfl

/-! ### taking an error (60_exceptions.md R96) -/

@[simp] theorem State.raise_grid (s : State) (st : Status) :
    (s.raise st).grid = s.grid := rfl
@[simp] theorem State.raise_phase (s : State) (st : Status) :
    (s.raise st).phase = .resp := rfl
@[simp] theorem State.raise_rspStatus (s : State) (st : Status) :
    (s.raise st).rspStatus = st.code := rfl
@[simp] theorem State.raise_rspData (s : State) (st : Status) :
    (s.raise st).rspData = 0 := rfl
@[simp] theorem State.raise_held (s : State) (st : Status) :
    (s.raise st).held = Held.discarded := rfl
@[simp] theorem State.raise_tick (s : State) (st : Status) :
    (s.raise st).tick = s.tick := rfl
@[simp] theorem State.raise_events (s : State) (st : Status) :
    (s.raise st).events = s.events := rfl
@[simp] theorem State.raise_offered (s : State) (st : Status) :
    (s.raise st).offered = s.offered := rfl
@[simp] theorem State.raise_needsReset (s : State) (st : Status) :
    (s.raise st).needsReset = s.needsReset := rfl

/-! ### the record of an edge -/

@[simp] theorem State.passEdge_grid (s : State) (p : Pins) (rest : List Event) :
    (s.passEdge p rest).grid = s.grid := rfl
@[simp] theorem State.passEdge_phase (s : State) (p : Pins) (rest : List Event) :
    (s.passEdge p rest).phase = s.phase := rfl
@[simp] theorem State.passEdge_rspStatus (s : State) (p : Pins) (rest : List Event) :
    (s.passEdge p rest).rspStatus = s.rspStatus := rfl
@[simp] theorem State.passEdge_rspData (s : State) (p : Pins) (rest : List Event) :
    (s.passEdge p rest).rspData = s.rspData := rfl
@[simp] theorem State.passEdge_held (s : State) (p : Pins) (rest : List Event) :
    (s.passEdge p rest).held = s.held := rfl
@[simp] theorem State.passEdge_tick (s : State) (p : Pins) (rest : List Event) :
    (s.passEdge p rest).tick = s.tick + 1 := rfl
@[simp] theorem State.passEdge_events (s : State) (p : Pins) (rest : List Event) :
    (s.passEdge p rest).events = rest := rfl
@[simp] theorem State.passEdge_offered (s : State) (p : Pins) (rest : List Event) :
    (s.passEdge p rest).offered = p.request := rfl
@[simp] theorem State.passEdge_needsReset (s : State) (p : Pins) (rest : List Event) :
    (s.passEdge p rest).needsReset = s.needsReset := rfl

/-! ### the reset edge (70_reset_and_hazards.md R111) -/

@[simp] theorem State.resetEdge_grid (s : State) :
    (s.resetEdge).grid = Grid.empty := rfl
@[simp] theorem State.resetEdge_phase (s : State) :
    (s.resetEdge).phase = .idle := rfl
@[simp] theorem State.resetEdge_rspStatus (s : State) :
    (s.resetEdge).rspStatus = Config.freeResetStatus s.tick := rfl
@[simp] theorem State.resetEdge_rspData (s : State) :
    (s.resetEdge).rspData = Config.freeResetData s.tick := rfl
@[simp] theorem State.resetEdge_held (s : State) :
    (s.resetEdge).held = Held.discarded := rfl
@[simp] theorem State.resetEdge_tick (s : State) :
    (s.resetEdge).tick = s.tick := rfl
@[simp] theorem State.resetEdge_events (s : State) :
    (s.resetEdge).events = s.events := rfl
@[simp] theorem State.resetEdge_offered (s : State) :
    (s.resetEdge).offered = s.offered := rfl
@[simp] theorem State.resetEdge_needsReset (s : State) :
    (s.resetEdge).needsReset = false := rfl

/-! ### acceptance (30_encoding.md R48) -/

@[simp] theorem State.accept_grid (s : State) (p : Pins) :
    (s.accept p).grid = s.grid := rfl
@[simp] theorem State.accept_phase (s : State) (p : Pins) :
    (s.accept p).phase = .busy := rfl
@[simp] theorem State.accept_rspStatus (s : State) (p : Pins) :
    (s.accept p).rspStatus = s.rspStatus := rfl
@[simp] theorem State.accept_rspData (s : State) (p : Pins) :
    (s.accept p).rspData = s.rspData := rfl
@[simp] theorem State.accept_held (s : State) (p : Pins) :
    (s.accept p).held = ⟨p.reqCmd, p.reqData, Config.latency (cmdOpc p.reqCmd) s.grid.lo s.grid.hi s.tick, freeProgress s.tick⟩ := rfl
@[simp] theorem State.accept_tick (s : State) (p : Pins) :
    (s.accept p).tick = s.tick := rfl
@[simp] theorem State.accept_events (s : State) (p : Pins) :
    (s.accept p).events = s.events := rfl
@[simp] theorem State.accept_offered (s : State) (p : Pins) :
    (s.accept p).offered = none := rfl
@[simp] theorem State.accept_needsReset (s : State) (p : Pins) :
    (s.accept p).needsReset = s.needsReset := rfl

/-! ### an edge while BUSY (R49) -/

@[simp] theorem State.countDown_grid (s : State) :
    (s.countDown).grid = s.grid := rfl
@[simp] theorem State.countDown_phase (s : State) :
    (s.countDown).phase = s.phase := rfl
@[simp] theorem State.countDown_rspStatus (s : State) :
    (s.countDown).rspStatus = s.rspStatus := rfl
@[simp] theorem State.countDown_rspData (s : State) :
    (s.countDown).rspData = s.rspData := rfl
@[simp] theorem State.countDown_held (s : State) :
    (s.countDown).held = ⟨s.held.cmd, s.held.data, s.held.edgesLeft - 1, freeProgress s.tick⟩ := rfl
@[simp] theorem State.countDown_tick (s : State) :
    (s.countDown).tick = s.tick := rfl
@[simp] theorem State.countDown_events (s : State) :
    (s.countDown).events = s.events := rfl
@[simp] theorem State.countDown_offered (s : State) :
    (s.countDown).offered = s.offered := rfl
@[simp] theorem State.countDown_needsReset (s : State) :
    (s.countDown).needsReset = s.needsReset := rfl

/-! ### the taking of a response (R51) -/

@[simp] theorem State.takeResponse_grid (s : State) :
    (s.takeResponse).grid = s.grid := rfl
@[simp] theorem State.takeResponse_phase (s : State) :
    (s.takeResponse).phase = .idle := rfl
@[simp] theorem State.takeResponse_rspStatus (s : State) :
    (s.takeResponse).rspStatus = s.rspStatus := rfl
@[simp] theorem State.takeResponse_rspData (s : State) :
    (s.takeResponse).rspData = s.rspData := rfl
@[simp] theorem State.takeResponse_held (s : State) :
    (s.takeResponse).held = s.held := rfl
@[simp] theorem State.takeResponse_tick (s : State) :
    (s.takeResponse).tick = s.tick := rfl
@[simp] theorem State.takeResponse_events (s : State) :
    (s.takeResponse).events = s.events := rfl
@[simp] theorem State.takeResponse_offered (s : State) :
    (s.takeResponse).offered = s.offered := rfl
@[simp] theorem State.takeResponse_needsReset (s : State) :
    (s.takeResponse).needsReset = s.needsReset := rfl

/-! ### registers before the first reset (R116) -/

@[simp] theorem State.unspecified_grid (s : State) :
    (s.unspecified).grid = ⟨Config.freePowerLo s.tick, Config.freePowerHi s.tick⟩ := rfl
@[simp] theorem State.unspecified_phase (s : State) :
    (s.unspecified).phase = phaseOfFin (Config.freePowerPhase s.tick) := rfl
@[simp] theorem State.unspecified_rspStatus (s : State) :
    (s.unspecified).rspStatus = Config.freePowerStatus s.tick := rfl
@[simp] theorem State.unspecified_rspData (s : State) :
    (s.unspecified).rspData = Config.freePowerData s.tick := rfl
@[simp] theorem State.unspecified_held (s : State) :
    (s.unspecified).held = ⟨Config.freePowerCmd s.tick, Config.freePowerOperand s.tick, Config.freePowerEdgesLeft s.tick, freeProgress s.tick⟩ := rfl
@[simp] theorem State.unspecified_tick (s : State) :
    (s.unspecified).tick = s.tick := rfl
@[simp] theorem State.unspecified_events (s : State) :
    (s.unspecified).events = s.events := rfl
@[simp] theorem State.unspecified_offered (s : State) :
    (s.unspecified).offered = s.offered := rfl
@[simp] theorem State.unspecified_needsReset (s : State) :
    (s.unspecified).needsReset = s.needsReset := rfl

/-! ### the loss of power (R110) -/

@[simp] theorem State.losePower_grid (s : State) (rest : List Event) :
    (s.losePower rest).grid = ⟨Config.freePowerLo s.tick, Config.freePowerHi s.tick⟩ := rfl
@[simp] theorem State.losePower_phase (s : State) (rest : List Event) :
    (s.losePower rest).phase = phaseOfFin (Config.freePowerPhase s.tick) := rfl
@[simp] theorem State.losePower_rspStatus (s : State) (rest : List Event) :
    (s.losePower rest).rspStatus = Config.freePowerStatus s.tick := rfl
@[simp] theorem State.losePower_rspData (s : State) (rest : List Event) :
    (s.losePower rest).rspData = Config.freePowerData s.tick := rfl
@[simp] theorem State.losePower_held (s : State) (rest : List Event) :
    (s.losePower rest).held = ⟨Config.freePowerCmd s.tick, Config.freePowerOperand s.tick, Config.freePowerEdgesLeft s.tick, freeProgress s.tick⟩ := rfl
@[simp] theorem State.losePower_tick (s : State) (rest : List Event) :
    (s.losePower rest).tick = s.tick + 1 := rfl
@[simp] theorem State.losePower_events (s : State) (rest : List Event) :
    (s.losePower rest).events = rest := rfl
@[simp] theorem State.losePower_offered (s : State) (rest : List Event) :
    (s.losePower rest).offered = none := rfl
@[simp] theorem State.losePower_needsReset (s : State) (rest : List Event) :
    (s.losePower rest).needsReset = true := rfl

/-! ### A command placed for the next step -/

@[simp] theorem placeCommand_grid (cmd : Cmd) (s : State) :
    (placeCommand cmd s).grid = s.grid := rfl
@[simp] theorem placeCommand_phase (cmd : Cmd) (s : State) :
    (placeCommand cmd s).phase = .busy := rfl
@[simp] theorem placeCommand_rspStatus (cmd : Cmd) (s : State) :
    (placeCommand cmd s).rspStatus = s.rspStatus := rfl
@[simp] theorem placeCommand_rspData (cmd : Cmd) (s : State) :
    (placeCommand cmd s).rspData = s.rspData := rfl
@[simp] theorem placeCommand_held (cmd : Cmd) (s : State) :
    (placeCommand cmd s).held = ⟨cmd, s.held.data, 1, s.held.progress⟩ := rfl
@[simp] theorem placeCommand_tick (cmd : Cmd) (s : State) :
    (placeCommand cmd s).tick = s.tick := rfl
@[simp] theorem placeCommand_events (cmd : Cmd) (s : State) :
    (placeCommand cmd s).events = .edge (restingPins s) :: s.events := rfl
@[simp] theorem placeCommand_offered (cmd : Cmd) (s : State) :
    (placeCommand cmd s).offered = s.offered := rfl
@[simp] theorem placeCommand_needsReset (cmd : Cmd) (s : State) :
    (placeCommand cmd s).needsReset = false := rfl

end Sys2Proof.Machine
end

