-- ==== Sys2Proof/Laws/Exec.lean ====
section
/-! SUPPORT. All that a command can do to the state (spec/30_encoding.md R49), and the latency bounds. -/

namespace Sys2Proof.Machine

/-- Every command completes: some planes, some status, some data, and nothing else of the state (R49, R101). -/
theorem exec_completes (i : Instr) (s : State) : ∃ g st d, exec i s = .next (s.complete g st d) := by
  cases i with
  | clr => exact ⟨_, _, _, rfl⟩
  | get row col =>
    by_cases h : cellInRange row col = true
    · exact ⟨_, _, _, by simp only [exec, execGet, h, if_true]; rfl⟩
    · exact ⟨_, _, _, by simp only [exec, execGet, h]; rfl⟩
  | set row col value =>
    by_cases h : (cellInRange row col && valueInRange value) = true
    · exact ⟨_, _, _, by simp only [exec, execSet, h, if_true]; rfl⟩
    · exact ⟨_, _, _, by simp only [exec, execSet, h]; rfl⟩
  | grav => exact ⟨_, _, _, rfl⟩
  | gpass => exact ⟨_, _, _, rfl⟩
  | xpose => exact ⟨_, _, _, rfl⟩
  | rdlo => exact ⟨_, _, _, rfl⟩
  | rdhi => exact ⟨_, _, _, rfl⟩

/-- Every command word completes, be it a command or not (R58). -/
theorem runHeld_completes (w : Cmd) (s : State) : ∃ g st d, runHeld w s = .next (s.complete g st d) := by
  unfold runHeld
  split
  · exact exec_completes _ s
  · exact ⟨_, _, _, rfl⟩

/-- A command takes at least one edge (R49). -/
theorem latency_pos (opc : BitVec 8) (lo hi : Word) (tick : Nat) : 1 ≤ Config.latency opc lo hi tick := by
  simp [Config.latency]

/-- A command takes at most `LAT(op)` edges (R49). -/
theorem latency_le (opc : BitVec 8) (lo hi : Word) (tick : Nat) :
    Config.latency opc lo hi tick ≤ Config.lat opc lo hi := by
  have h : Config.latencyPick tick % Config.lat opc lo hi < Config.lat opc lo hi :=
    Nat.mod_lt _ (by simp [Config.lat])
  unfold Config.latency
  omega

end Sys2Proof.Machine
end

