-- ==== Sys2Proof/Laws/Gravity.lean ====
section
/-! SUPPORT. What one column of a row-step can do, and how the loops of GPASS and GRAV unroll (spec/41_gravity.md R74
to R82). -/

namespace Sys2Proof.Machine

/-- Nothing moves where the cell is no target (R74). -/
theorem sourceMask_of_not_target {rule : SupportRule} {occ : Word} {r c : Nat}
    (h : isTarget rule occ r c = false) : sourceMask rule occ r c = 0 := by
  simp [sourceMask, h]

/-- Row 0 is a target as soon as it is empty (R74). -/
theorem isTarget_floor (rule : SupportRule) (occ : Word) (c : Nat) :
    isTarget rule occ 0 c = !occ.getLsbD (cellIndex 0 c) := by
  simp [isTarget]

/-- All that one column of a row-step can do: nothing, or one move of a source that is not 0 (R75, R79). -/
theorem columnStep_cases (rule : SupportRule) (occ : Word) (r : Nat) (gm : Grid × Nat) (c : Nat) :
    (sourceMask rule occ r c = 0 ∧ columnStep rule occ r gm c = gm) ∨
    (sourceMask rule occ r c ≠ 0 ∧ isTarget rule occ r c = true ∧
      columnStep rule occ r gm c = (gm.1.drop (sourceMask rule occ r c), gm.2 + 1)) := by
  by_cases h : sourceMask rule occ r c = 0
  · exact .inl ⟨h, by rw [columnStep, if_pos h]⟩
  · refine .inr ⟨h, ?_, by rw [columnStep, if_neg h]⟩
    by_contra t
    exact h (sourceMask_of_not_target (by simpa using t))

/-- A row-step is its eight columns, 0 to 7, over one occupancy snapshot (R77). -/
theorem rowStep_eq (rule : SupportRule) (gm : Grid × Nat) (r : Nat) :
    rowStep rule gm r = [0, 1, 2, 3, 4, 5, 6, 7].foldl (columnStep rule gm.1.occ r) gm := rfl

/-- A pass is its seven row-steps, 0 to 6 (R79). -/
theorem passUnder_eq (rule : SupportRule) (g : Grid) :
    passUnder rule g = [0, 1, 2, 3, 4, 5, 6].foldl (rowStep rule) (g, 0) := rfl

@[simp] theorem gravLoop_zero (rule : SupportRule) (g : Grid) (p : Nat) : gravLoop rule 0 g p = (g, p) := rfl

/-- The loop ends after a pass without a move (R82). -/
theorem gravLoop_done {rule : SupportRule} {g : Grid} (h : (passUnder rule g).2 = 0) (fuel p : Nat) :
    gravLoop rule (fuel + 1) g p = ((passUnder rule g).1, p) := by
  simp [gravLoop, h]

/-- The loop goes on after a moving pass (R80, R82). -/
theorem gravLoop_moving {rule : SupportRule} {g : Grid} (h : (passUnder rule g).2 ≠ 0) (fuel p : Nat) :
    gravLoop rule (fuel + 1) g p = gravLoop rule fuel (passUnder rule g).1 (p + 1) := by
  simp [gravLoop, h]

@[simp] theorem passesUnder_zero (rule : SupportRule) (g : Grid) : passesUnder rule 0 g = g := rfl

@[simp] theorem passesUnder_succ (rule : SupportRule) (k : Nat) (g : Grid) :
    passesUnder rule (k + 1) g = passesUnder rule k (passUnder rule g).1 := rfl

end Sys2Proof.Machine
end

