-- ==== Sys2Proof/Laws/PerInstr.lean ====
section
/-! SUPPORT. Facts about every command as syntax, one lemma per constructor. -/

namespace Sys2Proof.Laws

/-- The encoded word of a well-formed command carries the command's opcode, and zero in every reserved field
(spec/30_encoding.md R57). -/
def EncodedFields.Statement (i : Instr) : Prop :=
  i.WellFormed → cmdOpc (encode i) = i.opcode ∧
    match i with
    | .get row col =>
      cmdRow (encode i) = BitVec.ofNat 8 row ∧ cmdCol (encode i) = BitVec.ofNat 8 col ∧ cmdVal (encode i) = 0
    | .set row col value =>
      cmdRow (encode i) = BitVec.ofNat 8 row ∧ cmdCol (encode i) = BitVec.ofNat 8 col ∧
        cmdVal (encode i) = BitVec.ofNat 8 value
    | _ => cmdArgs (encode i) = 0

theorem EncodedFields.clr : EncodedFields.Statement .clr := fun _ => by decide

theorem EncodedFields.get (row col : Nat) : EncodedFields.Statement (.get row col) := by
  intro h
  simp only [Instr.WellFormed, Instr.wellFormed, argEncodable, Bool.and_eq_true, decide_eq_true_eq] at h
  exact ⟨cmdOpc_enc _ _ _ _ h.1 h.2, cmdRow_enc _ _ _ _ h.1 h.2, cmdCol_enc _ _ _ _ h.1 h.2,
    cmdVal_enc _ _ _ _ h.1 h.2⟩

theorem EncodedFields.set (row col value : Nat) : EncodedFields.Statement (.set row col value) := by
  intro h
  simp only [Instr.WellFormed, Instr.wellFormed, argEncodable, Bool.and_eq_true, decide_eq_true_eq] at h
  exact ⟨cmdOpc_enc _ _ _ _ h.1.1 h.1.2, cmdRow_enc _ _ _ _ h.1.1 h.1.2, cmdCol_enc _ _ _ _ h.1.1 h.1.2,
    cmdVal_enc _ _ _ _ h.1.1 h.1.2⟩

theorem EncodedFields.grav : EncodedFields.Statement .grav := fun _ => by decide

theorem EncodedFields.gpass : EncodedFields.Statement .gpass := fun _ => by decide

theorem EncodedFields.xpose : EncodedFields.Statement .xpose := fun _ => by decide

theorem EncodedFields.rdlo : EncodedFields.Statement .rdlo := fun _ => by decide

theorem EncodedFields.rdhi : EncodedFields.Statement .rdhi := fun _ => by decide

end Sys2Proof.Laws
end

