-- ==== Sys2Proof/Laws/Step.lean ====
section
/-! SUPPORT. Everything a step can do, said once (spec/30_encoding.md R45 to R52). -/

namespace Sys2Proof.Machine

/-- The request on the channel, if `req_valid = 1` (R44). -/
@[simp] theorem Pins.request_valid {p : Pins} (h : p.reqValid = true) : p.request = some ⟨p.reqCmd, p.reqData⟩ := by
  simp [Pins.request, h]

@[simp] theorem Pins.request_none {p : Pins} (h : p.reqValid = false) : p.request = none := by
  simp [Pins.request, h]

/-- The host keeps an unaccepted request (R52). -/
theorem holdsRequest_iff (p : Pins) (s : State) :
    holdsRequest p s = true ↔ s.offered = none ∨ p.request = s.offered := by
  simp only [holdsRequest, Bool.or_eq_true, beq_iff_eq]

/-- The host keeps its duties at an edge iff it keeps an unaccepted request, samples only valid responses, makes
`rsp_ready` from its own state and, before
the first reset after power-up, presents no request (R52, R118, R116). -/
theorem hostBreach_none_iff (p : Pins) (s : State) :
    hostBreach p s = none ↔
      (s.offered = none ∨ p.request = s.offered) ∧ (p.samplesRsp = true → s.phase = .resp) ∧
      p.readyFromOutputs = false ∧ (s.needsReset = true → p.reqValid = true → p.rst = true) := by
  rw [← holdsRequest_iff]
  unfold hostBreach State.rspValid
  cases holdsRequest p s <;> cases p.samplesRsp <;> cases p.readyFromOutputs <;> cases s.needsReset <;> cases p.reqValid <;> cases p.rst <;>
    cases s.phase <;> decide

/-- Everything an edge can do when it answers a next state. -/
theorem clockEdge_cases {p : Pins} {rest : List Event} {s t : State} (h : clockEdge p rest s = .next t) :
    hostBreach p s = none ∧
    ((p.rst = true ∧ t = (s.passEdge p rest).resetEdge) ∨
     (p.rst = false ∧ s.needsReset = true ∧ t = (s.passEdge p rest).unspecified) ∨
     (p.rst = false ∧ s.needsReset = false ∧
       ((s.phase = .idle ∧ p.reqValid = true ∧ t = (s.passEdge p rest).accept p) ∨
        (s.phase = .idle ∧ p.reqValid = false ∧ t = s.passEdge p rest) ∨
        (s.phase = .busy ∧ s.held.edgesLeft ≤ 1 ∧ runHeld s.held.cmd (s.passEdge p rest) = .next t) ∨
        (s.phase = .busy ∧ 1 < s.held.edgesLeft ∧ t = (s.passEdge p rest).countDown) ∨
        (s.phase = .resp ∧ p.rspReady = true ∧ t = (s.passEdge p rest).takeResponse) ∨
        (s.phase = .resp ∧ p.rspReady = false ∧ t = s.passEdge p rest)))) := by
  unfold clockEdge at h
  cases hb : hostBreach p s with
  | some r => simp [hb] at h
  | none =>
    refine ⟨rfl, ?_⟩
    simp only [hb] at h
    cases hr : p.rst with
    | true => simp only [hr, if_true, Host.Outcome.next.injEq] at h; exact .inl ⟨rfl, h.symm⟩
    | false =>
      cases hn : s.needsReset with
      | true => simp [hr, hn] at h; exact .inr (.inl ⟨rfl, rfl, h.symm⟩)
      | false =>
        refine .inr (.inr ⟨rfl, rfl, ?_⟩)
        simp only [hr, hn, phaseEdge, State.passEdge_phase, State.passEdge_held] at h
        cases hp : s.phase with
        | idle =>
          simp only [hp] at h
          cases hv : p.reqValid <;> simp [hv] at h <;> simp [h.symm]
        | busy =>
          simp only [hp] at h
          by_cases hd : s.held.edgesLeft ≤ 1
          · simp [hd] at h; simp [hd, h]
          · simp [hd] at h; simp [hd, h.symm, show 1 < s.held.edgesLeft by omega]
        | resp =>
          simp only [hp] at h
          cases hv : p.rspReady <;> simp [hv] at h <;> simp [h.symm]

/-- Everything a step can do when it answers a next state: nothing with `clk` stopped, a loss of power, or an edge. -/
theorem step_cases {s t : State} (h : step s = .next t) :
    (s.events = [] ∧ t = s) ∨
    (∃ rest, s.events = .powerLoss :: rest ∧ t = s.losePower rest) ∨
    (∃ p rest, s.events = .edge p :: rest ∧ clockEdge p rest s = .next t) := by
  unfold step nextEvent at h
  split at h
  · exact .inl ⟨‹_›, by simpa using h.symm⟩
  · exact .inr (.inr ⟨_, _, ‹_›, h⟩)
  · exact .inr (.inl ⟨_, ‹_›, by simpa using h.symm⟩)

/-- An edge is refused exactly where the host breaks a duty, and by that duty's name (93 U4, U5, U7). -/
theorem clockEdge_refused {p : Pins} {rest : List Event} {s : State} {r : Refusal}
    (h : hostBreach p s = some r) : clockEdge p rest s = .refused r := by
  simp [clockEdge, h]

/-- A resting host keeps its duties (R52, R118). -/
theorem restingPins_dutiful (cmd : Cmd) (s : State) : hostBreach (restingPins s) (placeCommand cmd s) = none := by
  rw [hostBreach_none_iff]
  refine ⟨?_, by simp [restingPins], rfl, by simp⟩
  cases h : s.offered with
  | none => exact .inl h
  | some q => exact .inr (by simp [restingPins, Pins.request, h])

/-- The next step after a command word is placed runs exactly that command (log entry 1). -/
theorem step_withFetchWord (s : State) (nbits w : Nat) :
    step (s.withFetchWord nbits w) =
      runHeld (tableWord nbits w) ((placeCommand (tableWord nbits w) s).passEdge (restingPins s) s.events) := by
  have hr : (restingPins s).rst = false := rfl
  simp [step, State.withFetchWord, nextEvent, clockEdge, restingPins_dutiful, hr, phaseEdge]

end Sys2Proof.Machine
end

