-- ==== Sys2Proof/Laws/Transpose.lean ====
section
/-! SUPPORT. The transposer bit by bit (spec/42_transpose.md R90, R91). -/

namespace Sys2Proof.Machine

/-- The transposer by bit index (R90). -/
theorem transpose_getLsbD (m : Word) (i : Nat) (hi : i < 64) :
    (transpose m).getLsbD i = m.getLsbD (cellIndex (i % 8) (i / 8)) := by
  simp [transpose, hi]

/-- A delta-swap stage by bit index (R91). -/
theorem deltaSwap_getLsbD (k m : Word) (d i : Nat) (hi : i < 64) :
    (deltaSwap k d m).getLsbD i =
      ((m.getLsbD i ^^ (k.getLsbD i && (m.getLsbD i ^^ (decide (d ≤ i) && m.getLsbD (i - d))))) ^^
        (k.getLsbD (d + i) && (m.getLsbD (d + i) ^^ (decide (d + i < 64) && m.getLsbD i)))) := by
  simp only [deltaSwap, BitVec.getLsbD_xor, BitVec.getLsbD_and, BitVec.getLsbD_ushiftRight,
    BitVec.getLsbD_shiftLeft]
  by_cases h : i < d <;> simp [h, hi, show (d ≤ i) ↔ ¬ i < d by omega]

end Sys2Proof.Machine
end

