-- ==== Sys2Proof/Tests/Slice0.lean ====
section
/-! SUPPORT. Tests against spec/95_test_vectors.md, the smoke test of WellFormed, words written out from
spec/30_encoding.md R54 to R57, and a witness for every statement with hypotheses. Expected values are the spec's. -/

namespace Sys2Proof.Tests

open Sys2Proof.Machine

/-! ### Helpers -/

/-- A block that was reset, with these planes. -/
def board (lo hi : Word) : State := { State.reset with grid := ⟨lo, hi⟩ }

/-- A block that holds a command word and a data operand, due at the next edge. -/
def holding (lo hi : Word) (cmd : Cmd) (data : Word) : State :=
  { board lo hi with phase := .busy, held := ⟨cmd, data, 1, ⟨0, 0, false⟩⟩, events := [.edge quietPins] }

/-- The outcome is a next state in RESP with this response and these planes. -/
def answers (o : Host.Outcome State Fault Refusal) (st : BitVec 2) (d lo hi : Word) : Bool :=
  match o with
  | .next t => t.phase == .resp && t.rspStatus == st && t.rspData == d && t.grid == ⟨lo, hi⟩
  | _ => false

/-- The outcome is a next state that has a property. -/
def nextIs (o : Host.Outcome State Fault Refusal) (f : State → Bool) : Bool :=
  match o with
  | .next t => f t
  | _ => false

/-- The outcome is this refusal. -/
def refusedAs (o : Host.Outcome State Fault Refusal) (r : Refusal) : Bool :=
  match o with
  | .refused r' => r' == r
  | _ => false

theorem nextIs_true {o : Host.Outcome State Fault Refusal} {f : State → Bool} (h : nextIs o f = true) :
    ∃ t, o = .next t ∧ f t = true := by
  cases o with
  | next t => exact ⟨t, rfl, h⟩
  | fault r => cases r
  | refused r => simp [nextIs] at h

/-! ### WellFormed: an ill-formed term for each check (R55, R63) -/

theorem test_wf_get_row : (Instr.get 256 0).wellFormed = false := by decide
theorem test_wf_get_col : (Instr.get 0 256).wellFormed = false := by decide
theorem test_wf_set_row : (Instr.set 256 0 0).wellFormed = false := by decide
theorem test_wf_set_col : (Instr.set 0 256 0).wellFormed = false := by decide
theorem test_wf_set_value : (Instr.set 0 0 256).wellFormed = false := by decide
theorem test_wf_out_of_range_is_encodable : (Instr.set 255 255 255).wellFormed = true := by decide

/-! ### Decode: one word per constructor, bit by bit from R54 and R56 (VAL, COL, ROW, OPC) -/

theorem test_decode_clr : decode 0b00000000000000000000000000000001 = .ok .clr := by decide
theorem test_decode_get : decode 0b00000000000000110000011100000010 = .ok (.get 7 3) := by decide
theorem test_decode_set : decode 0b00000010000001010000001000000011 = .ok (.set 2 5 2) := by decide
theorem test_decode_grav : decode 0b00000000000000000000000000000100 = .ok .grav := by decide
theorem test_decode_gpass : decode 0b00000000000000000000000000000101 = .ok .gpass := by decide
theorem test_decode_xpose : decode 0b00000000000000000000000000000110 = .ok .xpose := by decide
theorem test_decode_rdlo : decode 0b00000000000000000000000000000111 = .ok .rdlo := by decide
theorem test_decode_rdhi : decode 0b00000000000000000000000000001000 = .ok .rdhi := by decide

/-- 95 E4: ERR_OPC outranks ERR_RSV. -/
theorem test_decode_priority : decode 0x00000100 = .error .illegalOpcode := by decide
/-- 95 E8: ERR_RSV outranks ERR_ARG. -/
theorem test_decode_get_val : decode 0x01000802 = .error .reservedField := by decide
theorem test_decodeTableWord_get : decodeTableWord 32 0x00C80002 = some (.get 0 200) := by decide
theorem test_decodeTableWord_error : decodeTableWord 32 0x00000104 = none := by decide

/-! ### Commands (95_test_vectors.md) -/

/-- 95 V18. -/
theorem test_clr : answers (step ((board 1 0x8000000000000000).withFetchWord 32 0x00000001)) 0 0 0 0 = true := by
  decide
/-- 40_cell_access.md R66, the example. -/
theorem test_get : answers (step ((board 0x0000000008000808 0x0000000000080800).withFetchWord 32 0x00030102))
    0 3 0x0000000008000808 0x0000000000080800 = true := by decide
/-- 95 V16. -/
theorem test_get_row_8 : answers (step ((board 1 1).withFetchWord 32 0x00000802)) 1 0 1 1 = true := by decide
/-- 95 V8: bit 63. -/
theorem test_set_top : answers (step ((board 1 0).withFetchWord 32 0x02070703)) 0 0 1 0x8000000000000000 = true := by
  decide
/-- 95 V6 and V12: an assignment, not a toggle; and no wrap of row 8. -/
theorem test_set_over_and_range :
    answers (step ((board 1 1).withFetchWord 32 0x01000003)) 0 0 1 0 = true ∧
    answers (step ((board 1 0).withFetchWord 32 0x01000803)) 1 0 1 0 = true := by decide
/-- 95 L1-1. -/
theorem test_grav : answers (step ((board 0x0800000008000008 0x0000080008000000).withFetchWord 32 0x00000004))
    0 7 0x0000000008000808 0x0000000000080800 = true := by decide +kernel
/-- 95 G4: the most passes. -/
theorem test_grav_worst : answers (step ((board 0x0400040000000000 0x0404000000000000).withFetchWord 32 0x00000004))
    0 13 0x0000000000040004 0x0000000000040400 = true := by decide +kernel
/-- 95 G5: seven moves in one column in one pass. -/
theorem test_gpass_stack : answers (step ((board 0 0x1010101010101000).withFetchWord 32 0x00000005))
    0 7 0 0x0010101010101010 = true := by decide +kernel
/-- 95 P2, GPASS 4, which DIRECTLY_BELOW would not give. -/
theorem test_gpass_mid : answers (step ((board 0x0800000000000808 0x0000000008000800).withFetchWord 32 0x00000005))
    0 2 0x0008000000000808 0x0000000000080800 = true := by decide +kernel
/-- 95 X9. -/
theorem test_xpose : answers (step (holding 5 6 0x00000006 0x123456789ABCDEF0)) 0 0x0F3355FF1E66AA00 5 6 = true := by
  decide +kernel
/-- 95 X9 through the reference network, with its first stage. -/
theorem test_network : deltaSwap maskK1 7 0x123456789ABCDEF0 = 0x123416F8DE34DAF8 ∧
    transposeNetwork 0x123456789ABCDEF0 = 0x0F3355FF1E66AA00 := by decide
/-- 95 V2 and V9. -/
theorem test_rdlo : answers (step ((board 1 0x8000000000000000).withFetchWord 32 0x00000007))
    0 1 1 0x8000000000000000 = true := by decide
theorem test_rdhi : answers (step ((board 1 0x8000000000000000).withFetchWord 32 0x00000008))
    0 0x8000000000000000 1 0x8000000000000000 = true := by decide
/-- 95 E1, E9 and E10. -/
theorem test_errors :
    answers (step ((board 3 4).withFetchWord 32 0x00000000)) 2 0 3 4 = true ∧
    answers (step ((board 3 4).withFetchWord 32 0x00010004)) 3 0 3 4 = true ∧
    answers (step (holding 3 4 0x01000006 5)) 3 0 3 4 = true := by decide

/-! ### The interface -/

/-- A host that asserts `rst`. -/
def resetPins : Pins := ⟨true, false, 0, 0, false, false, false⟩
/-- A host that presents SET 7, 3, 1. -/
def setPins : Pins := ⟨false, true, 0x01030703, 0, false, false, false⟩
/-- A block in RESP that presents `(OK, 3)`. -/
def presenting (rest : List Event) : State := { board 9 9 with phase := .resp, rspData := 3, events := rest }

/-- 95 P5: reset during a GRAV. -/
theorem test_reset_while_busy :
    nextIs (step { holding 0x0800000008000008 0x0000080008000000 0x00000004 0 with events := [.edge resetPins] })
      (fun t => t.grid == ⟨0, 0⟩ && t.phase == .idle && t.reqReady false && !t.rspValid) = true := by decide
theorem test_accept :
    nextIs (step { State.reset with events := [.edge setPins] })
      (fun t => t.phase == .busy && t.held.cmd == 0x01030703 && t.grid == ⟨0, 0⟩) = true := by decide
/-- 93 U6: a response nobody takes is held. -/
theorem test_response_held :
    nextIs (step (presenting [.edge quietPins])) (fun t => t.rspValid && t.rspDataPort == 3) = true := by decide
theorem test_response_taken :
    nextIs (step (presenting [.edge ⟨false, false, 0, 0, true, true, false⟩])) (fun t => t.phase == .idle) = true := by decide

/-- 93 U4: a host that makes `rsp_ready` from block outputs. -/
theorem test_ready_from_outputs :
    refusedAs (step (presenting [.edge ⟨false, false, 0, 0, true, true, true⟩])) .readyFromOutputs = true := by decide

/-! ### The assembler (R63, R64) -/

theorem test_asm_set : assembleLine "  SET 7, 3,1 ; a piece".toList = .ok (some ⟨0x01030703, none⟩) := by decide
theorem test_asm_word : assembleLine ".word 0x6, #0x2".toList = .ok (some ⟨6, some 2⟩) := by decide
theorem test_asm_range : assembleLine "GET 256, 0".toList = .error .operandOutOfRange := by decide

end Sys2Proof.Tests
end

