-- ==== Sys2Proof/Tests/Witnesses.lean ====
section
/-! SUPPORT. For every statement with hypotheses, values that meet them all together; for a statement of several clauses,
one for each clause at a boundary of its range. `witness_X` is for `Obligations.X`. -/

namespace Sys2Proof.Tests

open Sys2Proof.Machine

/-! ### Command words and errors -/

theorem witness_DecodeInvertsEncode : (Instr.set 255 255 255).WellFormed ∧ (Instr.get 0 255).WellFormed := by decide

theorem witness_EncodeInvertsDecode : decode 0xFFFFFF03 = .ok (.set 255 255 255) := by decide

theorem witness_DecodeSelectsTableRow :
    (⟨0x02, 0x00000002, 0xFF0000FF⟩ : OpcodeRow) ∈ opcodeTable ∧ (0x00FFFF02#32 &&& 0xFF0000FF#32) = 0x00000002#32 := by
  decide

theorem witness_EncodingFunctionPlacesFields : (255 : Nat) < 256 ∧ (0 : Nat) < 256 := by decide

theorem witness_IllegalOpcodesCompleteWithErrOpc :
    cmdOpc 0x00000100 = 0 ∧ 9 ≤ (cmdOpc 0x00000009).toNat ∧ 9 ≤ (cmdOpc 0x000000FF).toNat := by decide

theorem witness_ReservedFieldsCompleteWithErrRsv :
    (cmdOpc 0x00000101 ∈ [0x01#8, 0x04#8, 0x05#8, 0x06#8, 0x07#8, 0x08#8] ∧ 0x00000101#32 >>> 8 ≠ 0) ∧
    (cmdOpc 0x01000002 = 0x02 ∧ 0x01000002#32 >>> 24 ≠ 0) ∧ cmdOpc 0xFFFFFF03 = 0x03 := by decide

theorem witness_ErrorsChangeNothing : ∃ t, runHeld 0x04000003 (board 1 0) = .next t ∧ t.rspStatus ≠ 0 := by
  obtain ⟨t, h, f⟩ := nextIs_true (o := runHeld 0x04000003 (board 1 0)) (f := fun t => t.rspStatus != 0) (by decide)
  exact ⟨t, h, by simpa using f⟩

theorem witness_UnmatchedWordsCompleteWithError :
    (∀ row ∈ opcodeTable, 0x00000009#32 &&& row.mask ≠ row.pattern) ∧
    ∀ row ∈ opcodeTable, 0x01000002#32 &&& row.mask ≠ row.pattern := by decide

theorem witness_OutOfRangeArgumentsGiveErrArg :
    (8 ≤ 8 ∨ 8 ≤ 7) ∧ (8 ≤ 7 ∨ 8 ≤ 8) ∧ (8 ≤ 7 ∨ 8 ≤ 7 ∨ 4 ≤ 4) := by decide

/-! ### Cell access -/

theorem witness_GetReturnsTheCell : (0 : Nat) < 8 ∧ (7 : Nat) < 8 := by decide

theorem witness_SetAssignsOneCell : (7 : Nat) < 8 ∧ (0 : Nat) < 8 ∧ (3 : Nat) < 4 ∧ (63 : Nat) < 64 := by decide

theorem witness_GetAfterSetReadsTheValue :
    (7 : Nat) < 8 ∧ (7 : Nat) < 8 ∧ (3 : Nat) < 4 ∧ (7 : Nat) < 8 ∧ (6 : Nat) < 8 ∧ (7, 6) ≠ (7, 7) := by decide

theorem witness_PlaneReadsShowASetCell : (7 : Nat) < 8 ∧ (7 : Nat) < 8 ∧ (3 : Nat) < 4 := by decide

theorem witness_ReadingCommandsHaveNoSideEffects :
    (∃ r c, Instr.get 7 8 = .get r c) ∧ (Instr.xpose = .xpose) ∧
    ∃ u : State, u.grid = (board 1 2).grid ∧ u.held.data = (board 1 2).held.data ∧ u ≠ board 1 2 :=
  ⟨⟨7, 8, rfl⟩, rfl, ⟨{ board 1 2 with tick := 5 }, rfl, rfl, by decide⟩⟩

theorem witness_CellsAndPlanesAreTwoViews :
    (7 : Nat) < 8 ∧ (63 : Nat) < 64 ∧
    ∀ r c, r < 8 → c < 8 → Grid.cell ⟨1, 2⟩ r c = Grid.cell ⟨1, 2⟩ r c :=
  ⟨by decide, by decide, fun _ _ _ _ => rfl⟩

theorem witness_OnlyFourCommandsChangePlanes :
    (7, 7) ≠ (7, 6) ∧ ∃ t, exec (.set 7 7 2) (board 1 0) = .next t ∧ t.grid ≠ (board 1 0).grid := by
  refine ⟨by decide, ?_⟩
  obtain ⟨t, h, f⟩ := nextIs_true (o := exec (.set 7 7 2) (board 1 0)) (f := fun t => t.grid != (board 1 0).grid) (by decide)
  exact ⟨t, h, by simpa using f⟩

theorem witness_OnlyXposeReadsTheDataOperand : Instr.get 0 0 ≠ .xpose := by decide

/-! ### Gravity -/

theorem witness_MasksSelectRowsAndColumns : (6 : Nat) < 8 ∧ (7 : Nat) < 8 ∧ (63 : Nat) < 64 ∧ (6 : Nat) ≤ 6 := by decide

theorem witness_LowestSetBitIsIsolated :
    (0x8000000000000000#64).getLsbD 63 = true ∧ ∀ j, j < 63 → (0x8000000000000000#64).getLsbD j = false := by decide

/-- Row-step 1 of column 3 of 95 L1-1: (1,3) is a target, the lowest piece above it stands at row 3. Row-step 6 of a
column with one piece at row 7 and none below is the clause in which nothing moves. -/
theorem witness_ColumnStepDropsTheLowestPieceAbove :
    (let g : Grid := ⟨0x0800000008000008, 0x0000080008000000⟩
     (g.cell 1 3 = 0 ∧ ∀ k, k < 1 → g.cell k 3 ≠ 0) ∧ g.cell 3 3 ≠ 0 ∧ ∀ k, k < 3 → 1 < k → g.cell k 3 = 0) ∧
    (let g : Grid := ⟨0x0100000000000000, 0⟩
     ¬ ((g.cell 6 0 = 0 ∧ ∀ k, k < 6 → g.cell k 0 ≠ 0) ∧ ∃ a, 6 < a ∧ a < 8 ∧ g.cell a 0 ≠ 0)) := by
  refine ⟨by decide, fun ⟨⟨_, h⟩, _⟩ => h 0 (by decide) (by decide)⟩

theorem witness_ColumnOrderAndSnapshotDoNotMatter :
    (6 : Nat) < 7 ∧ [7, 6, 5, 4, 3, 2, 1, 0].Perm (List.range 8) := by decide

theorem witness_RowStepEqualsParallelForm : (0 : Nat) < 7 ∧ (6 : Nat) < 7 := by decide

theorem witness_GravitySeesOnlyOccupancy : Grid.occ ⟨3, 1⟩ = Grid.occ ⟨1, 2⟩ := by decide

theorem witness_MovesLowerTheRowIndexSum : (0 : Nat) < 7 ∧ (6 : Nat) < 7 ∧ (7 : Nat) < 8 := by decide

theorem witness_PassKeepsPiecesInOrder : (7 : Nat) < 8 := by decide

theorem witness_PassMovesNothingIffSettled : (gpass ⟨0x0000000000010001, 0x0000000000010100⟩).2 = 0 := by
  decide +kernel

theorem witness_GravCompactsEveryColumn : (0 : Nat) < 8 ∧ (7 : Nat) < 8 := by decide

theorem witness_ColumnsAreIndependent : (0 : Nat) < 8 ∧ (7 : Nat) < 8 := by decide

theorem witness_GravityBounds : (0 : Nat) < 8 ∧ (7 : Nat) < 8 := by decide

/-! ### Transpose -/

theorem witness_XposeTransposesTheOperand : (7 : Nat) < 8 ∧ (0 : Nat) < 8 := by decide

theorem witness_XposeIgnoresThePlanes :
    (holding 1 2 6 5).held.data = (holding 3 4 6 5).held.data ∧ (holding 1 2 6 5).grid ≠ (holding 3 4 6 5).grid := by
  decide

theorem witness_StagesExchangeIndexBits :
    (2, maskK4, 28) ∈ [(0, maskK1, 7), (1, maskK2, 14), (2, maskK4, 28)] ∧ (63 : Nat) < 64 ∧
    [(maskK4, 28), (maskK1, 7), (maskK2, 14)].Perm [(maskK1, 7), (maskK2, 14), (maskK4, 28)] := by decide

theorem witness_TransposeLaws : (7 : Nat) < 8 ∧ (0 : Nat) < 8 := by decide

/-! ### The step -/

/-- A held SET 7, 3, 1 at its completion edge, and a held illegal word at its. -/
theorem witness_StepRunsTheHeldCommand :
    (holding 1 0 0x01030703 0).CompletesAt quietPins [] ∧
    decode (holding 1 0 0x01030703 0).held.cmd = .ok (.set 7 3 1) ∧
    (holding 1 0 0x000000FF 0).CompletesAt quietPins [] ∧
    decode (holding 1 0 0x000000FF 0).held.cmd = .error .illegalOpcode :=
  ⟨⟨rfl, by decide, rfl, rfl, rfl, by decide⟩, by decide, ⟨rfl, by decide, rfl, rfl, rfl, by decide⟩, by decide⟩

theorem witness_CompletionIsTheTransactionFunction : (holding 1 0 0 0).CompletesAt quietPins [] :=
  ⟨rfl, by decide, rfl, rfl, rfl, by decide⟩

theorem witness_IdleBlockAcceptsARequest :
    let s := { State.reset with events := [.edge setPins] }
    s.events = .edge setPins :: [] ∧ hostBreach setPins s = none ∧ setPins.rst = false ∧ s.needsReset = false ∧
      s.phase = .idle ∧ setPins.reqValid = true := by decide

/-- The common premises and each clause: IDLE without a request, BUSY with 2 edges left, RESP taken and RESP held. -/
theorem witness_OtherEdgesHoldOrRelease :
    (let s := { State.reset with events := [.edge quietPins] }
     s.events = .edge quietPins :: [] ∧ hostBreach quietPins s = none ∧ quietPins.rst = false ∧
      s.needsReset = false ∧ s.phase = .idle ∧ quietPins.reqValid = false) ∧
    (let s := { holding 1 0 4 0 with held := ⟨4, 0, 2, ⟨0, 0, false⟩⟩ }
     s.events = .edge quietPins :: [] ∧ hostBreach quietPins s = none ∧ quietPins.rst = false ∧
      s.needsReset = false ∧ s.phase = .busy ∧ 1 < s.held.edgesLeft) ∧
    (let p : Pins := ⟨false, false, 0, 0, true, true, false⟩
     let s := presenting [.edge p]
     s.events = .edge p :: [] ∧ hostBreach p s = none ∧ p.rst = false ∧ s.needsReset = false ∧ s.phase = .resp ∧
      p.rspReady = true) ∧
    (let s := presenting [.edge quietPins]
     s.events = .edge quietPins :: [] ∧ hostBreach quietPins s = none ∧ quietPins.rst = false ∧
      s.needsReset = false ∧ s.phase = .resp ∧ quietPins.rspReady = false) := by decide

theorem witness_OutputPortsFollowPhase : (presenting []).rspValid = true := by decide

theorem witness_ResetEdgeEmptiesTheBlock :
    let s := { holding 1 0 4 0 with events := [.edge resetPins] }
    s.events = .edge resetPins :: [] ∧ hostBreach resetPins s = none ∧ resetPins.rst = true := by decide

theorem witness_BlockIsReadyAfterReset :
    let s := { holding 1 0 4 0 with events := [.edge resetPins] }
    s.events = .edge resetPins :: [] ∧ resetPins.rst = true ∧ ∃ t, step s = .next t :=
  ⟨rfl, rfl, _, rfl⟩

/-- Each clause: a withdrawn request; a sample without `rsp_valid` by a host that keeps its request; `rsp_ready` from
block outputs; a request before the first reset after power-up, without a sample and beside one of a free `PHASE` that is
RESP. -/
theorem witness_BrokenHostDutiesAreRefused :
    (let s := { State.reset with events := [.edge quietPins], offered := some ⟨4, 0⟩ }
     s.events = .edge quietPins :: [] ∧ s.offered = some ⟨4, 0⟩ ∧ quietPins.request ≠ some ⟨4, 0⟩) ∧
    (let p : Pins := ⟨false, true, 4, 0, false, true, false⟩
     let s := { holding 1 0 4 0 with events := [.edge p], offered := some ⟨4, 0⟩ }
     s.events = .edge p :: [] ∧ p.request = s.offered ∧ p.samplesRsp = true ∧ s.phase ≠ .resp) ∧
    (let p : Pins := ⟨false, false, 0, 0, true, true, true⟩
     let s := presenting [.edge p]
     s.events = .edge p :: [] ∧ s.offered = none ∧ (p.samplesRsp = true → s.phase = .resp) ∧
      p.readyFromOutputs = true) ∧
    (let s := { State.reset with events := [.edge setPins], needsReset := true }
     s.events = .edge setPins :: [] ∧ s.offered = none ∧ (setPins.samplesRsp = true → s.phase = .resp) ∧
      setPins.readyFromOutputs = false ∧ s.needsReset = true ∧ setPins.reqValid = true ∧ setPins.rst = false) ∧
    (let p : Pins := ⟨false, true, 4, 0, false, true, false⟩
     let s := { presenting [.edge p] with needsReset := true }
     s.events = .edge p :: [] ∧ s.offered = none ∧ (p.samplesRsp = true → s.phase = .resp) ∧
      p.readyFromOutputs = false ∧ s.needsReset = true ∧ p.reqValid = true ∧ p.rst = false) := by decide

theorem witness_DutifulHostIsNeverRefused : HostKeepsDuties (holding 1 0 4 0) := by
  intro p rest h
  cases h
  decide

theorem witness_StoppedClockHoldsEverything : (board 1 2).events = [] := by decide

/-- Each clause: the loss of power, an edge with `rst = 0` before the first reset, and a step that clears the flag. -/
theorem witness_PowerLossLeavesRegistersUnspecified :
    ({ board 1 2 with events := [.powerLoss] } : State).events = .powerLoss :: [] ∧
    (let s := { board 1 2 with events := [.edge quietPins], needsReset := true }
     s.events = .edge quietPins :: [] ∧ hostBreach quietPins s = none ∧ quietPins.rst = false ∧ s.needsReset = true) ∧
    ∃ t, step { board 1 2 with events := [.edge resetPins], needsReset := true } = .next t ∧ t.needsReset = false :=
  ⟨by decide, by decide, _, rfl, rfl⟩

/-- A legal block that is BUSY with one edge left takes a step. -/
theorem witness_EveryStepKeepsLegality :
    (holding 1 0 0x01030703 0).Legal ∧ ∃ t, step (holding 1 0 0x01030703 0) = .next t := by
  refine ⟨fun _ => ⟨fun _ => ⟨by decide, ?_⟩, fun h => absurd rfl h, fun h => ?_⟩, _, rfl⟩
  · exact Nat.succ_le_succ (Nat.zero_le _)
  · cases h

/-- A completing SET changes the planes. -/
theorem witness_PlanesChangeOnlyAtCompletionOrReset :
    ∃ t, step (holding 1 0 0x01030703 0) = .next t ∧ t.grid ≠ (holding 1 0 0x01030703 0).grid := by
  obtain ⟨t, h, f⟩ := nextIs_true (o := step (holding 1 0 0x01030703 0)) (f := fun t => t.grid != ⟨1, 0⟩) (by decide)
  exact ⟨t, h, by simpa [holding, board] using f⟩

/-! ### A run to the completion edge, whatever the latency -/

/-- A BUSY block with a quiet host runs on to its completion edge. -/
theorem busy_block_runs (n : Nat) : ∀ s : State, s.phase = .busy → s.needsReset = false → s.offered = none →
    s.held.edgesLeft = n + 1 → s.events = (List.replicate (n + 1) quietPins).map .edge →
    ∃ t, runSteps (n + 1) s = .next t := by
  induction n with
  | zero =>
    intro s hp hn ho hl he
    have hb : hostBreach quietPins s = none := (hostBreach_none_iff _ _).2 ⟨.inl ho, by simp [quietPins], rfl, by simp [quietPins]⟩
    obtain ⟨g, st, d, hr⟩ := runHeld_completes s.held.cmd (s.passEdge quietPins [])
    refine ⟨(s.passEdge quietPins []).complete g st d, ?_⟩
    have hs : step s = .next ((s.passEdge quietPins []).complete g st d) := by
      have he' : s.events = .edge quietPins :: [] := he
      simp only [step, nextEvent, he', clockEdge, hb, hn, phaseEdge, State.passEdge_phase, hp, State.passEdge_held, hl]
      simpa [quietPins] using hr
    simp [runSteps, Host.Core.run, core, hs]
  | succ n ih =>
    intro s hp hn ho hl he
    have hb : hostBreach quietPins s = none := (hostBreach_none_iff _ _).2 ⟨.inl ho, by simp [quietPins], rfl, by simp [quietPins]⟩
    have hs : step s = .next (s.passEdge quietPins ((List.replicate (n + 1) quietPins).map .edge)).countDown := by
      have he' : s.events = .edge quietPins :: (List.replicate (n + 1) quietPins).map .edge := by
        rw [he]; rfl
      simp only [step, nextEvent, he', clockEdge, hb, hn, phaseEdge, State.passEdge_phase, hp, State.passEdge_held, hl]
      simp [quietPins]
    obtain ⟨t, ht⟩ := ih (s.passEdge quietPins ((List.replicate (n + 1) quietPins).map .edge)).countDown
      (by simp [hp]) (by simp [hn]) (by simp [Pins.request, quietPins]) (by simp [hl]) (by simp)
    exact ⟨t, by simpa [runSteps, Host.Core.run, core, hs] using ht⟩

/-- `L` of the accepted SET 7, 3, 1. -/
def setLatency : Nat := Config.latency (cmdOpc setPins.reqCmd) 0 0 1

/-- An IDLE block, then SET 7, 3, 1 accepted and `setLatency` quiet edges. -/
def acceptingBlock : State :=
  { State.reset with events := .edge setPins :: (List.replicate setLatency quietPins).map .edge }

/-- All premises, and a run to the completion edge itself (`es` of length `L`), and one that ends before it (`es`
empty, `0 < L`). -/
theorem witness_AcceptedCommandCompletesWithinLatency :
    hostBreach setPins acceptingBlock = none ∧ setPins.rst = false ∧ acceptingBlock.needsReset = false ∧
    acceptingBlock.phase = .idle ∧ setPins.reqValid = true ∧
    (∀ q ∈ List.replicate setLatency quietPins, q.rst = false ∧ q.reqValid = false ∧
      q.samplesRsp = false ∧ q.readyFromOutputs = false) ∧
    (∃ t, runSteps (setLatency + 1) acceptingBlock = .next t) ∧
    0 < setLatency ∧ ∃ t, runSteps 1 acceptingBlock = .next t := by
  have hpos : 0 < setLatency := latency_pos _ _ _ _
  refine ⟨rfl, rfl, rfl, rfl, rfl, ?_, ?_, hpos, ⟨_, rfl⟩⟩
  · intro q hq
    rw [List.eq_of_mem_replicate hq]
    decide
  · obtain ⟨n, hn⟩ : ∃ n, setLatency = n + 1 := ⟨setLatency - 1, by omega⟩
    have hs : step acceptingBlock = .next
        ((acceptingBlock.passEdge setPins ((List.replicate setLatency quietPins).map .edge)).accept setPins) := rfl
    obtain ⟨t, ht⟩ := busy_block_runs n
      ((acceptingBlock.passEdge setPins ((List.replicate setLatency quietPins).map .edge)).accept setPins)
      rfl rfl rfl hn (by simp [hn])
    exact ⟨t, by rw [hn]; simpa [runSteps, Host.Core.run, core, hs] using ht⟩

/-! ### The assembler -/

/-- The limits of the assembler's operands, each side of them. -/
theorem witness_AssemblerGivesTheEncodedWords :
    (255 < 256 ∧ ¬ 256 < 256) ∧ (2 ^ 32 - 1 < 2 ^ 32 ∧ ¬ 2 ^ 32 < 2 ^ 32) ∧ (2 ^ 64 - 1 < 2 ^ 64 ∧ ¬ 2 ^ 64 < 2 ^ 64) := by
  decide

end Sys2Proof.Tests
end

section
/-! PROOFS. The family of spec/00_scope.md: the masks of R10 and the lowest set bit of R11, bit by bit. -/

namespace Sys2Proof.Machine

/-! ### The masks (R10) -/

/-- `rowMask(r)` is row `r` (R10). -/
theorem rowMask_getLsbD (r : Nat) {i : Nat} (hi : i < 64) : (rowMask r).getLsbD i = decide (i / 8 = r) := by
  have hones : ∀ k, (0xFF#64).getLsbD k = (decide (k < 64) && decide (k < 8)) := fun k => by
    rw [BitVec.getLsbD_ofNat, show 0xFF = 2 ^ 8 - 1 from rfl, Nat.testBit_two_pow_sub_one]
  rw [rowMask, BitVec.getLsbD_shiftLeft, hones, Bool.eq_iff_iff]
  simp only [Bool.and_eq_true, Bool.not_eq_true', decide_eq_true_eq, decide_eq_false_iff_not]
  omega

/-- Column 0, the literal that `colMask` shifts (R10). -/
theorem colMask_zero_getLsbD : ∀ k, k < 64 → (0x0101010101010101#64).getLsbD k = decide (k % 8 = 0) := by
  decide

/-- `colMask(c)` is column `c` (R10). -/
theorem colMask_getLsbD {c i : Nat} (hc : c < 8) (hi : i < 64) :
    (colMask c).getLsbD i = decide (i % 8 = c) := by
  rw [colMask, BitVec.getLsbD_shiftLeft, colMask_zero_getLsbD _ (by omega), Bool.eq_iff_iff]
  simp only [Bool.and_eq_true, Bool.not_eq_true', decide_eq_true_eq, decide_eq_false_iff_not]
  omega

/-- One less than bit `n` is the bits below `n`. -/
theorem shiftLeft_one_sub_one_getLsbD {n : Nat} (hn : n < 64) (i : Nat) :
    (1#64 <<< n - 1).getLsbD i = decide (i < n) := by
  have hpow : 2 ^ n < 2 ^ 64 := Nat.pow_lt_pow_right (by decide) hn
  have hval : (1#64 <<< n - 1).toNat = 2 ^ n - 1 := by
    rw [← BitVec.twoPow_eq, BitVec.toNat_sub_of_le, BitVec.toNat_twoPow_of_lt hn]
    · rfl
    · rw [BitVec.le_def, BitVec.toNat_twoPow_of_lt hn]
      exact Nat.one_le_two_pow
  rw [← BitVec.testBit_toNat, hval, Nat.testBit_two_pow_sub_one]

/-- `belowMask(r,c)` is the cells of column `c` under row `r` (R10). -/
theorem belowMask_getLsbD {r c i : Nat} (hr : r < 8) (hc : c < 8) (hi : i < 64) :
    (belowMask r c).getLsbD i = (decide (i % 8 = c) && decide (i / 8 < r)) := by
  rw [belowMask, BitVec.getLsbD_and, colMask_getLsbD hc hi, cellBit,
    shiftLeft_one_sub_one_getLsbD (cellIndex_lt hr hc), Bool.eq_iff_iff]
  simp only [Bool.and_eq_true, decide_eq_true_eq]
  unfold cellIndex
  omega

/-- `aboveMask(r,c)` is the cells of column `c` over row `r`. Row 7 is out: there `bit(r,c) << 1` can leave the word
(R10). -/
theorem aboveMask_getLsbD {r c i : Nat} (hr : r ≤ 6) (hc : c < 8) (hi : i < 64) :
    (aboveMask r c).getLsbD i = (decide (i % 8 = c) && decide (r < i / 8)) := by
  have hnext : cellIndex r c + 1 < 64 := by unfold cellIndex; omega
  rw [aboveMask, BitVec.getLsbD_and, colMask_getLsbD hc hi, cellBit, BitVec.getLsbD_not, ← BitVec.shiftLeft_add,
    shiftLeft_one_sub_one_getLsbD hnext, Bool.eq_iff_iff]
  simp only [Bool.and_eq_true, Bool.not_eq_true', decide_eq_true_eq, decide_eq_false_iff_not]
  unfold cellIndex
  omega

/-- Settles O24: each mask's bits, by the lemma of that mask. -/
theorem masksSelectRowsAndColumns : Obligations.MasksSelectRowsAndColumns := by
  intro r c i hr hc hi
  refine ⟨?row, ?col, ?cell, ?below, fun hr6 => ?above⟩
  case row => simp [rowMask_getLsbD r hi]
  case col => simp [colMask_getLsbD hc hi]
  case cell =>
    rw [cellBit_getLsbD, Bool.and_eq_true, decide_eq_true_eq, decide_eq_true_eq]
    exact and_iff_right hi
  case below => simp [belowMask_getLsbD hr hc hi]
  case above => simp [aboveMask_getLsbD hr6 hc hi]

/-! ### The lowest set bit (R11) -/

/-- `x & -x` keeps the bits of `x` that have no set bit of `x` below them: negation flips each bit above the lowest set
one and no other (R11). -/
theorem lowestSet_getLsbD (x : Word) (j : Nat) :
    (lowestSet x).getLsbD j = (x.getLsbD j && !decide (∃ k < j, x.getLsbD k = true)) := by
  rw [lowestSet, BitVec.getLsbD_and, BitVec.getLsbD_neg]
  by_cases hj : j < 64
  · cases x.getLsbD j <;> simp [hj]
  · simp [BitVec.getLsbD_of_ge x j (by omega)]

@[simp] theorem lowestSet_zero : lowestSet 0 = 0 := by
  simp [lowestSet]

/-- `x & -x` is the single bit `i` where `i` is the lowest set bit of `x` (R11). -/
theorem lowestSet_eq_shiftLeft_one {x : Word} {i : Nat} (hset : x.getLsbD i = true)
    (hlow : ∀ j, j < i → x.getLsbD j = false) : lowestSet x = 1#64 <<< i := by
  have hi : i < 64 := BitVec.lt_of_getLsbD hset
  apply BitVec.eq_of_getLsbD_eq
  intro j hj
  rw [lowestSet_getLsbD, ← BitVec.twoPow_eq, BitVec.getLsbD_twoPow]
  obtain hlt | rfl | hgt := Nat.lt_trichotomy j i
  · simp [hlow j hlt, show i ≠ j by omega]
  · have hnone : ¬ ∃ k < j, x.getLsbD k = true := by
      rintro ⟨k, hk, hbit⟩
      simp [hlow k hk] at hbit
    simp [hset, hnone, hi]
  · have hsome : ∃ k < j, x.getLsbD k = true := ⟨i, hgt, hset⟩
    simp [hsome, show i ≠ j by omega]

/-- Settles O25: zero has no bit to keep, and a lowest set bit is the only one kept. -/
theorem lowestSetBitIsIsolated : Obligations.LowestSetBitIsIsolated :=
  ⟨lowestSet_zero, fun _ _ => lowestSet_eq_shiftLeft_one⟩

end Sys2Proof.Machine
end

section
/-! PROOFS. The family of spec/10_state.md: the cells as a view of the planes (R15, R16), the commands that write them
(R17), and the states that reset and every step keep to (R20 to R23). -/

namespace Sys2Proof.Machine

/-! ### Cells and planes (R15, R16) -/

/-- A cell as a number: `HI[i]` is its high bit, `LO[i]` its low bit (R15). -/
theorem Grid.cell_toNat (g : Grid) (r c : Nat) :
    (g.cell r c).toNat =
      2 * (g.hi.getLsbD (cellIndex r c)).toNat + (g.lo.getLsbD (cellIndex r c)).toNat := by
  have hhi := Bool.toNat_le (g.hi.getLsbD (cellIndex r c))
  have hlo := Bool.toNat_le (g.lo.getLsbD (cellIndex r c))
  rw [Grid.cell_eq, BitVec.toNat_ofNat, Nat.mod_eq_of_lt (by omega)]

/-- A cell reads one bit of each plane and nothing else, and both show in its value (R15). -/
theorem Grid.cell_eq_cell_iff (g h : Grid) (r c : Nat) :
    g.cell r c = h.cell r c ↔
      g.lo.getLsbD (cellIndex r c) = h.lo.getLsbD (cellIndex r c) ∧
      g.hi.getLsbD (cellIndex r c) = h.hi.getLsbD (cellIndex r c) := by
  rw [Grid.cell_eq, Grid.cell_eq]
  cases g.lo.getLsbD (cellIndex r c) <;> cases g.hi.getLsbD (cellIndex r c) <;>
    cases h.lo.getLsbD (cellIndex r c) <;> cases h.hi.getLsbD (cellIndex r c) <;> decide

/-- Each bit index is the index of its quotient and remainder by 8 (R16). -/
theorem cellIndex_div_mod (i : Nat) : cellIndex (i / 8) (i % 8) = i := Nat.div_add_mod' i 8

/-- Each bit index below 64 is that of exactly one cell (R16). -/
theorem existsUnique_cellIndex_eq {i : Nat} (hi : i < 64) :
    ∃! p : Nat × Nat, p.1 < 8 ∧ p.2 < 8 ∧ cellIndex p.1 p.2 = i := by
  refine ⟨(i / 8, i % 8), ⟨by omega, by omega, cellIndex_div_mod i⟩, ?_⟩
  rintro ⟨r, c⟩ ⟨-, hc, hindex⟩
  rw [Prod.mk.injEq, ← cellIndex_inj hc (by omega), cellIndex_div_mod]
  exact hindex

/-- The cells determine the planes (R16). -/
theorem Grid.eq_of_cells_eq {g h : Grid}
    (hcells : ∀ r c, r < 8 → c < 8 → g.cell r c = h.cell r c) : g = h := by
  have hbits : ∀ i, i < 64 → g.lo.getLsbD i = h.lo.getLsbD i ∧ g.hi.getLsbD i = h.hi.getLsbD i := by
    intro i hi
    simpa only [cellIndex_div_mod] using
      (g.cell_eq_cell_iff h _ _).1 (hcells (i / 8) (i % 8) (by omega) (by omega))
  have hlo : g.lo = h.lo := BitVec.eq_of_getLsbD_eq fun i hi => (hbits i hi).1
  have hhi : g.hi = h.hi := BitVec.eq_of_getLsbD_eq fun i hi => (hbits i hi).2
  cases g
  cases h
  rw [Grid.mk.injEq]
  exact ⟨hlo, hhi⟩

/-- Settles O21: a cell's value, its index, and extensionality over cells. -/
theorem cellsAndPlanesAreTwoViews : Obligations.CellsAndPlanesAreTwoViews :=
  ⟨fun g r c _ _ => g.cell_toNat r c, fun _ => existsUnique_cellIndex_eq, fun _ _ => Grid.eq_of_cells_eq⟩

/-! ### The commands that write cells (R17) -/

/-- GET of a cell that exists (40_cell_access.md R66). -/
theorem exec_get_inRange {row col : Nat} (h : cellInRange row col = true) (s : State) :
    exec (.get row col) s = .next (s.respond .ok ((s.grid.cell row col).setWidth 64)) := if_pos h

/-- GET out of range (R66, 60_exceptions.md R97). -/
theorem exec_get_outOfRange {row col : Nat} (h : ¬ cellInRange row col = true) (s : State) :
    exec (.get row col) s = .next (s.raise .errArg) := if_neg h

/-- SET of a cell that exists to a value it can hold (R67). -/
theorem exec_set_inRange {row col value : Nat} (h : (cellInRange row col && valueInRange value) = true)
    (s : State) :
    exec (.set row col value) s = .next (s.complete (s.grid.setCell row col value) .ok 0) := if_pos h

/-- SET out of range (R67, R97). -/
theorem exec_set_outOfRange {row col value : Nat} (h : ¬ (cellInRange row col && valueInRange value) = true)
    (s : State) : exec (.set row col value) s = .next (s.raise .errArg) := if_neg h

/-- A command in progress ends in one of two ways: it completes with OK, or it takes ERR_ARG (R95, R97). -/
theorem exec_ok_or_raise (i : Instr) (s : State) :
    (∃ g d, exec i s = .next (s.complete g .ok d)) ∨ exec i s = .next (s.raise .errArg) := by
  cases i with
  | get row col =>
    by_cases h : cellInRange row col = true
    · exact .inl ⟨_, _, exec_get_inRange h s⟩
    · exact .inr (exec_get_outOfRange h s)
  | set row col value =>
    by_cases h : (cellInRange row col && valueInRange value) = true
    · exact .inl ⟨_, _, exec_set_inRange h s⟩
    · exact .inr (exec_set_outOfRange h s)
  | clr | grav | gpass | xpose | rdlo | rdhi => exact .inl ⟨_, _, rfl⟩

/-- GET, XPOSE, RDLO and RDHI leave the planes as they are (R17). -/
theorem exec_grid_eq_or_writes {i : Instr} {s t : State} (h : exec i s = .next t) :
    t.grid = s.grid ∨ i = .clr ∨ i = .grav ∨ i = .gpass ∨ ∃ r c v, i = .set r c v := by
  cases i with
  | clr => exact .inr (.inl rfl)
  | grav => exact .inr (.inr (.inl rfl))
  | gpass => exact .inr (.inr (.inr (.inl rfl)))
  | set r c v => exact .inr (.inr (.inr (.inr ⟨r, c, v, rfl⟩)))
  | get row col =>
    by_cases hrange : cellInRange row col = true
    · cases (exec_get_inRange hrange s).symm.trans h
      exact .inl rfl
    · cases (exec_get_outOfRange hrange s).symm.trans h
      exact .inl rfl
  | xpose | rdlo | rdhi =>
    cases h
    exact .inl rfl

/-- Assigning one cell leaves the others as they are (R67). -/
theorem Grid.setCell_cell_of_ne (g : Grid) (value : Nat) {r c r' c' : Nat} (hc : c < 8) (hr' : r' < 8)
    (hc' : c' < 8) (hne : (r', c') ≠ (r, c)) : (g.setCell r c value).cell r' c' = g.cell r' c' := by
  have hindex : cellIndex r' c' ≠ cellIndex r c := by
    rwa [Ne, cellIndex_inj hc' hc, ← Prod.mk.injEq]
  have hlt : cellIndex r' c' < 64 := cellIndex_lt hr' hc'
  rw [Grid.cell_eq_cell_iff]
  exact ⟨by rw [Grid.setCell, assignBit_getLsbD _ _ _ _ hlt, if_neg hindex],
    by rw [Grid.setCell, assignBit_getLsbD _ _ _ _ hlt, if_neg hindex]⟩

/-- SET changes no cell but its own, in range or not (R17, R67). -/
theorem exec_set_cell_of_ne {r c v r' c' : Nat} {s t : State} (h : exec (.set r c v) s = .next t)
    (hr' : r' < 8) (hc' : c' < 8) (hne : (r', c') ≠ (r, c)) : t.grid.cell r' c' = s.grid.cell r' c' := by
  by_cases hrange : (cellInRange r c && valueInRange v) = true
  · cases (exec_set_inRange hrange s).symm.trans h
    rw [Bool.and_eq_true, cellInRange_iff] at hrange
    obtain ⟨⟨-, hc⟩, -⟩ := hrange
    exact s.grid.setCell_cell_of_ne v hc hr' hc' hne
  · cases (exec_set_outOfRange hrange s).symm.trans h
    rfl

/-- Settles O22: the commands that are none of the four, and the frame of SET. -/
theorem onlyFourCommandsChangePlanes : Obligations.OnlyFourCommandsChangePlanes := by
  intro i s t h
  refine ⟨(exec_grid_eq_or_writes h).resolve_left, ?_⟩
  rintro r c v rfl r' c' hr' hc' hne
  exact exec_set_cell_of_ne h hr' hc' hne

/-! ### Legal states (R20 to R23)

A state is legal by its phase; each update of the block is then checked against the phase it leads to. -/

/-- While the block waits for its first reset, it may hold anything (70_reset_and_hazards.md R116). -/
theorem State.legal_of_needsReset {s : State} (h : s.needsReset = true) : s.Legal := fun h' => by
  simp [h] at h'

/-- In IDLE no command is held (R21). -/
theorem State.legal_of_idle {s : State} (hphase : s.phase = .idle) (hheld : s.held = Held.discarded) :
    s.Legal := fun _ => by
  simp [hphase, hheld]

/-- While BUSY the completion edge is ahead, and within `LAT(op)` (30_encoding.md R49). -/
theorem State.legal_of_busy {s : State} (hphase : s.phase = .busy) (hpos : 1 ≤ s.held.edgesLeft)
    (hlat : s.held.edgesLeft ≤ s.heldLat) : s.Legal := fun _ => by
  simp [hphase, hpos, hlat]

/-- In RESP no command is held, and a response to an error has data 0 (60_exceptions.md R96). -/
theorem State.legal_of_resp {s : State} (hphase : s.phase = .resp) (hheld : s.held = Held.discarded)
    (herror : s.rspStatus ≠ Status.ok.code → s.rspData = 0) : s.Legal := fun _ => by
  simpa [hphase, hheld] using herror

/-- The model's own record of an edge is no part of what makes a state legal. -/
@[simp] theorem State.legal_passEdge (s : State) (p : Pins) (rest : List Event) :
    (s.passEdge p rest).Legal ↔ s.Legal := Iff.rfl

/-- A reset edge leads to a legal state from any state (R111). -/
theorem State.legal_resetEdge (s : State) : s.resetEdge.Legal := State.legal_of_idle rfl rfl

/-- An accepted command has at least 1 and at most `LAT(op)` edges ahead (R48, R49). -/
theorem State.legal_accept (s : State) (p : Pins) : (s.accept p).Legal :=
  State.legal_of_busy rfl (latency_pos _ _ _ _) (latency_le _ _ _ _)

/-- An edge that is not the completion edge leaves one edge less ahead, of the same command on the same planes (R49). -/
theorem State.legal_countDown {s : State} (hs : s.Legal) (hreset : s.needsReset = false)
    (hphase : s.phase = .busy) (hahead : 1 < s.held.edgesLeft) : s.countDown.Legal := by
  obtain ⟨hbusy, -, -⟩ := hs hreset
  obtain ⟨-, hlat⟩ := hbusy hphase
  exact State.legal_of_busy hphase (Nat.le_sub_one_of_lt hahead) ((Nat.sub_le _ _).trans hlat)

/-- Taking a response leads from RESP, where nothing is held, to IDLE (R51). -/
theorem State.legal_takeResponse {s : State} (hs : s.Legal) (hreset : s.needsReset = false)
    (hphase : s.phase = .resp) : s.takeResponse.Legal := by
  obtain ⟨-, hheld, -⟩ := hs hreset
  exact State.legal_of_idle rfl (hheld (by simp [hphase]))

/-- Completion with OK leads to a legal state, whatever the data (R49). -/
theorem State.legal_complete_ok (s : State) (g : Grid) (d : Word) : (s.complete g .ok d).Legal :=
  State.legal_of_resp rfl rfl (absurd rfl)

/-- Taking an error leads to a legal state: its data is 0 (R96). -/
theorem State.legal_raise (s : State) (st : Status) : (s.raise st).Legal :=
  State.legal_of_resp rfl rfl fun _ => rfl

/-- A command word completes with OK, or takes an error (R58, R95, R96). -/
theorem runHeld_ok_or_raise (w : Cmd) (s : State) :
    (∃ g d, runHeld w s = .next (s.complete g .ok d)) ∨ ∃ st, runHeld w s = .next (s.raise st) := by
  unfold runHeld
  cases decode w with
  | ok i => exact (exec_ok_or_raise i s).imp_right fun h => ⟨_, h⟩
  | error e => exact .inr ⟨_, rfl⟩

/-- The completion edge leads to a legal state (R49, R96). -/
theorem runHeld_legal {w : Cmd} {s t : State} (h : runHeld w s = .next t) : t.Legal := by
  obtain ⟨g, d, hok⟩ | ⟨st, herror⟩ := runHeld_ok_or_raise w s
  · cases hok.symm.trans h
    exact s.legal_complete_ok g d
  · cases herror.symm.trans h
    exact s.legal_raise st

/-- An edge keeps a legal state legal, in each phase and at reset (R45 to R51). -/
theorem clockEdge_keeps_legal {p : Pins} {rest : List Event} {s t : State} (hs : s.Legal)
    (h : clockEdge p rest s = .next t) : t.Legal := by
  have hpass : (s.passEdge p rest).Legal := (s.legal_passEdge p rest).2 hs
  obtain ⟨-, ⟨-, rfl⟩ | ⟨-, hreset, rfl⟩ | ⟨-, hreset, hphases⟩⟩ := clockEdge_cases h
  · exact State.legal_resetEdge _
  · exact State.legal_of_needsReset hreset
  · obtain ⟨-, -, rfl⟩ | ⟨-, -, rfl⟩ | ⟨-, -, hrun⟩ | ⟨hbusy, hahead, rfl⟩ | ⟨hresp, -, rfl⟩ | ⟨-, -, rfl⟩ := hphases
    · exact State.legal_accept _ p
    · exact hpass
    · exact runHeld_legal hrun
    · exact State.legal_countDown hpass hreset hbusy hahead
    · exact State.legal_takeResponse hpass hreset hresp
    · exact hpass

/-- Settles O54: an edge keeps legality, a loss of power asks for a reset, and a stopped clock changes nothing. -/
theorem everyStepKeepsLegality : Obligations.EveryStepKeepsLegality := by
  intro s t hs h
  obtain ⟨-, rfl⟩ | ⟨rest, -, rfl⟩ | ⟨p, rest, -, hedge⟩ := step_cases h
  · exact hs
  · exact State.legal_of_needsReset rfl
  · exact clockEdge_keeps_legal hs hedge

/-- Settles O55: reset leaves the block in IDLE with nothing held. -/
theorem resetStateIsLegal : Obligations.ResetStateIsLegal :=
  ⟨State.legal_of_idle rfl rfl, rfl, rfl⟩

end Sys2Proof.Machine
end

section
/-! PROOFS. Why GRAV ends (spec/41_gravity.md R82, R83): every move lowers the sum of the row indices by 1, so the fuel
of the loop is enough, and the loop's last pass is the first one without a move. The target rule is a parameter. -/

namespace Sys2Proof.Machine

/-! ### The piece that moves (R75) -/

/-- A nonzero word has a lowest set bit (00_scope.md R11). -/
theorem exists_lowest_set_bit {x : Word} (hx : x ≠ 0) :
    ∃ i, x.getLsbD i = true ∧ ∀ j, j < i → x.getLsbD j = false := by
  have hset : ∃ i, x.getLsbD i = true := by
    by_contra! hclear
    exact hx (BitVec.eq_of_getLsbD_eq fun i _ => by simpa using hclear i)
  exact ⟨Nat.find hset, Nat.find_spec hset, fun j hj => by simpa using Nat.find_min hset hj⟩

/-- A target is empty (R74). -/
theorem isTarget_empty {rule : SupportRule} {occ : Word} {r c : Nat} (h : isTarget rule occ r c = true) :
    occ.getLsbD (cellIndex r c) = false := by
  unfold isTarget at h
  rw [Bool.and_eq_true, Bool.not_eq_true'] at h
  exact h.1

/-- A source is a single piece over row `r` in column `c`, with an empty cell directly below it: the target itself, or a
cell between the target and the lowest piece above it (R75, R76). -/
theorem sourceMask_eq_cellBit {rule : SupportRule} {occ : Word} {r c : Nat} (hr : r ≤ 6) (hc : c < 8)
    (hmoves : sourceMask rule occ r c ≠ 0) :
    ∃ a, r ≤ a ∧ a < 7 ∧ sourceMask rule occ r c = cellBit (a + 1) c ∧
      occ.getLsbD (cellIndex (a + 1) c) = true ∧ occ.getLsbD (cellIndex a c) = false := by
  have htarget : isTarget rule occ r c = true := by
    by_contra hnot
    exact hmoves (sourceMask_of_not_target (by simpa using hnot))
  have hmask : sourceMask rule occ r c = lowestSet (occ &&& aboveMask r c) := if_pos htarget
  have habove : occ &&& aboveMask r c ≠ 0 := fun hzero => hmoves (by rw [hmask, hzero, lowestSet_zero])
  obtain ⟨i, hset, hlow⟩ := exists_lowest_set_bit habove
  have hi : i < 64 := BitVec.lt_of_getLsbD hset
  obtain ⟨hocc, hcol, hrow⟩ : occ.getLsbD i = true ∧ i % 8 = c ∧ r < i / 8 := by
    simpa only [BitVec.getLsbD_and, aboveMask_getLsbD hr hc hi, Bool.and_eq_true, decide_eq_true_eq] using hset
  have hindex : cellIndex (i / 8 - 1 + 1) c = i := by unfold cellIndex; omega
  refine ⟨i / 8 - 1, by omega, by omega, ?_, by rwa [hindex], ?_⟩
  · rw [hmask, lowestSet_eq_shiftLeft_one hset hlow, cellBit, hindex]
  · obtain hnext | hbetween : i / 8 - 1 = r ∨ r < i / 8 - 1 := by omega
    · rw [hnext]
      exact isTarget_empty htarget
    · have hbelow : cellIndex (i / 8 - 1) c = i - 8 := by unfold cellIndex; omega
      have hclear := hlow (i - 8) (by omega)
      rw [BitVec.getLsbD_and, aboveMask_getLsbD hr hc (by omega), show (i - 8) % 8 = c by omega,
        decide_eq_true (show r < (i - 8) / 8 by omega)] at hclear
      rw [hbelow]
      simpa using hclear

/-- All that one column of a row-step can do, said by the piece that moves (R75, R76, R79). -/
theorem columnStep_eq_or_drops (rule : SupportRule) (occ : Word) {r c : Nat} (gm : Grid × Nat) (hr : r ≤ 6)
    (hc : c < 8) :
    columnStep rule occ r gm c = gm ∨
    ∃ a, r ≤ a ∧ a < 7 ∧ occ.getLsbD (cellIndex (a + 1) c) = true ∧ occ.getLsbD (cellIndex a c) = false ∧
      columnStep rule occ r gm c = (gm.1.drop (cellBit (a + 1) c), gm.2 + 1) := by
  obtain ⟨-, hstill⟩ | ⟨hmoves, -, hdrop⟩ := columnStep_cases rule occ r gm c
  · exact .inl hstill
  · obtain ⟨a, hra, ha, hmask, hpiece, hempty⟩ := sourceMask_eq_cellBit hr hc hmoves
    exact .inr ⟨a, hra, ha, hpiece, hempty, by rw [hdrop, hmask]⟩

/-! ### One move on a plane (R76) -/

/-- A move within column `c` leaves the other columns of a plane as they are (R86). -/
theorem dropBits_cellBit_of_ne (plane : Word) {a c a' c' : Nat} (hc : c < 8) (ha' : a' < 8) (hc' : c' < 8)
    (hne : c' ≠ c) : (dropBits plane (cellBit a c)).getLsbD (cellIndex a' c') = plane.getLsbD (cellIndex a' c') := by
  have hstays : cellIndex a' c' ≠ cellIndex a c := by unfold cellIndex; omega
  have hreceives : 8 + cellIndex a' c' ≠ cellIndex a c := by unfold cellIndex; omega
  rw [dropBits_getLsbD _ _ _ (cellIndex_lt ha' hc')]
  simp [hstays, hreceives]

/-- Occupancy goes down as the planes do (10_state.md R19, R76). -/
theorem Grid.drop_occ (g : Grid) (s : Word) : (g.drop s).occ = dropBits g.occ s := by
  apply BitVec.eq_of_getLsbD_eq
  intro i hi
  simp only [Grid.drop, Grid.occ_getLsbD, dropBits_getLsbD _ _ _ hi]
  cases s.getLsbD i <;> cases s.getLsbD (8 + i) <;> simp [Bool.or_assoc, Bool.or_left_comm]

/-- A piece over an empty cell and that cell change places in the occupancy (R76). -/
theorem dropBits_cellBit_occ (occ : Word) {a c : Nat} (hpiece : occ.getLsbD (cellIndex (a + 1) c) = true)
    {i : Nat} (hi : i < 64) :
    (dropBits occ (cellBit (a + 1) c)).getLsbD i =
      if i = cellIndex a c then true else if i = cellIndex (a + 1) c then false else occ.getLsbD i := by
  have hsource : cellIndex (a + 1) c = 8 + cellIndex a c := by unfold cellIndex; omega
  have hlt : 8 + cellIndex a c < 64 := hsource ▸ BitVec.lt_of_getLsbD hpiece
  rw [hsource] at hpiece
  rw [dropBits_getLsbD _ _ _ hi, cellBit_getLsbD, cellBit_getLsbD, hsource]
  by_cases htarget : i = cellIndex a c
  · subst htarget
    simp [hpiece, hlt]
  · by_cases hpos : i = 8 + cellIndex a c
    · simp [hpos, hlt]
    · simp [htarget, hpos]

/-! ### The sum of the row indices (R83) -/

/-- The row of an occupied cell, and 0 for an empty one: what a cell adds to the sum (R83). -/
def rowWeight (occ : Word) (i : Nat) : Nat := if occ.getLsbD i then i / 8 else 0

/-- The sum of R83 over the set of all cells. -/
theorem rowIndexSum_eq_sum (g : Grid) : rowIndexSum g = ∑ i ∈ Finset.range 64, rowWeight g.occ i := rfl

/-- A move of one piece into the empty cell below it lowers the sum of the row indices by exactly 1 (R83). -/
theorem rowIndexSum_drop (g : Grid) {a c : Nat} (hc : c < 8)
    (hpiece : g.occ.getLsbD (cellIndex (a + 1) c) = true) (hempty : g.occ.getLsbD (cellIndex a c) = false) :
    rowIndexSum (g.drop (cellBit (a + 1) c)) + 1 = rowIndexSum g := by
  have hsource : cellIndex (a + 1) c < 64 := BitVec.lt_of_getLsbD hpiece
  have htarget : cellIndex a c < 64 := by unfold cellIndex at *; omega
  have hne : cellIndex a c ≠ cellIndex (a + 1) c := by unfold cellIndex; omega
  have hrow : ∀ b, cellIndex b c / 8 = b := fun b => by unfold cellIndex; omega
  have hpair : {cellIndex a c, cellIndex (a + 1) c} ⊆ Finset.range 64 := by
    simp [Finset.insert_subset_iff, hsource, htarget]
  have hrest : ∑ i ∈ Finset.range 64 \ {cellIndex a c, cellIndex (a + 1) c},
        rowWeight (dropBits g.occ (cellBit (a + 1) c)) i =
      ∑ i ∈ Finset.range 64 \ {cellIndex a c, cellIndex (a + 1) c}, rowWeight g.occ i := by
    refine Finset.sum_congr rfl fun i hi => ?_
    simp only [Finset.mem_sdiff, Finset.mem_range, Finset.mem_insert, Finset.mem_singleton, not_or] at hi
    obtain ⟨hlt, hnotTarget, hnotSource⟩ := hi
    rw [rowWeight, dropBits_cellBit_occ _ hpiece hlt, if_neg hnotTarget, if_neg hnotSource, rowWeight]
  rw [rowIndexSum_eq_sum, rowIndexSum_eq_sum, Grid.drop_occ, ← Finset.sum_sdiff hpair, ← Finset.sum_sdiff hpair,
    hrest, Finset.sum_pair hne, Finset.sum_pair hne]
  simp only [rowWeight, dropBits_cellBit_occ _ hpiece hsource, dropBits_cellBit_occ _ hpiece htarget, hpiece, hempty,
    hrow, hne.symm, if_true, if_false, Bool.false_eq_true]
  omega

/-- Two words agree in column `c`. -/
def SameColumn (x y : Word) (c : Nat) : Prop :=
  ∀ a, a < 8 → x.getLsbD (cellIndex a c) = y.getLsbD (cellIndex a c)

/-- A column's step leaves the occupancy of the other columns as it is (R77, R86). -/
theorem columnStep_sameColumn_of_ne (rule : SupportRule) (occ : Word) {r c c' : Nat} (gm : Grid × Nat)
    (hr : r ≤ 6) (hc : c < 8) (hc' : c' < 8) (hne : c' ≠ c) :
    SameColumn (columnStep rule occ r gm c).1.occ gm.1.occ c' := by
  intro b hb
  obtain hstill | ⟨a, -, -, -, -, hdrop⟩ := columnStep_eq_or_drops rule occ gm hr hc
  · rw [hstill]
  · rw [hdrop, Grid.drop_occ, dropBits_cellBit_of_ne _ hc hb hc' hne]

/-- A column's step lowers the sum by as many as it moves, where the snapshot is right about its column (R77, R83). -/
theorem columnStep_rowIndexSum (rule : SupportRule) {occ : Word} {r c : Nat} (gm : Grid × Nat) (hr : r ≤ 6)
    (hc : c < 8) (hlive : SameColumn gm.1.occ occ c) :
    rowIndexSum (columnStep rule occ r gm c).1 + (columnStep rule occ r gm c).2 = rowIndexSum gm.1 + gm.2 := by
  obtain hstill | ⟨a, -, ha, hpiece, hempty, hdrop⟩ := columnStep_eq_or_drops rule occ gm hr hc
  · rw [hstill]
  · rw [← hlive _ (by omega)] at hpiece hempty
    have hsum := rowIndexSum_drop gm.1 hc hpiece hempty
    simp only [hdrop]
    omega

/-- Different columns, each still as in the snapshot, lower the sum by as many as they move: the step of one leaves the
others as they were (R77, R83). -/
theorem foldl_columnStep_rowIndexSum (rule : SupportRule) {occ : Word} {r : Nat} {cols : List Nat} (gm : Grid × Nat)
    (hr : r ≤ 6) (hnodup : cols.Nodup) (hlt : ∀ c ∈ cols, c < 8) (hlive : ∀ c ∈ cols, SameColumn gm.1.occ occ c) :
    rowIndexSum (cols.foldl (columnStep rule occ r) gm).1 + (cols.foldl (columnStep rule occ r) gm).2 =
      rowIndexSum gm.1 + gm.2 := by
  induction cols generalizing gm with
  | nil => rw [List.foldl_nil]
  | cons c cols ih =>
    rw [List.nodup_cons] at hnodup
    rw [List.forall_mem_cons] at hlt hlive
    obtain ⟨hfresh, hnodup⟩ := hnodup
    obtain ⟨hc, hlt⟩ := hlt
    obtain ⟨hliveNow, hlive⟩ := hlive
    have hlater : ∀ c' ∈ cols, SameColumn (columnStep rule occ r gm c).1.occ occ c' := fun c' hmem a ha =>
      (columnStep_sameColumn_of_ne rule occ gm hr hc (hlt c' hmem) (ne_of_mem_of_not_mem hmem hfresh) a ha).trans
        (hlive c' hmem a ha)
    rw [List.foldl_cons, ih _ hnodup hlt hlater, columnStep_rowIndexSum rule gm hr hc hliveNow]

/-- A row-step lowers the sum of the row indices by as many as it moves (R83). -/
theorem rowStep_rowIndexSum (rule : SupportRule) (gm : Grid × Nat) {r : Nat} (hr : r ≤ 6) :
    rowIndexSum (rowStep rule gm r).1 + (rowStep rule gm r).2 = rowIndexSum gm.1 + gm.2 :=
  foldl_columnStep_rowIndexSum rule gm hr List.nodup_range (fun _ => List.mem_range.1) fun _ _ _ _ => rfl

/-- Row-steps 0 to 6 in any order lower the sum of the row indices by as many as they move (R83). -/
theorem foldl_rowStep_rowIndexSum (rule : SupportRule) {rows : List Nat} (gm : Grid × Nat)
    (hrows : ∀ r ∈ rows, r ≤ 6) :
    rowIndexSum (rows.foldl (rowStep rule) gm).1 + (rows.foldl (rowStep rule) gm).2 = rowIndexSum gm.1 + gm.2 := by
  induction rows generalizing gm with
  | nil => rw [List.foldl_nil]
  | cons r rows ih =>
    rw [List.forall_mem_cons] at hrows
    rw [List.foldl_cons, ih _ hrows.2, rowStep_rowIndexSum rule gm hrows.1]

/-- A pass lowers the sum of the row indices by its move count (R83). -/
theorem passUnder_rowIndexSum (rule : SupportRule) (g : Grid) :
    rowIndexSum (passUnder rule g).1 + (passUnder rule g).2 = rowIndexSum g := by
  have hrows : ∀ r ∈ List.range 7, r ≤ 6 := fun r hr => Nat.le_of_lt_succ (List.mem_range.1 hr)
  rw [passUnder, foldl_rowStep_rowIndexSum rule _ hrows, Nat.add_zero]

/-! ### A pass without a move (R82, R84) -/

/-- Where each step changes nothing or counts a move, so does a run of steps. -/
theorem foldl_eq_or_count_lt {f : Grid × Nat → Nat → Grid × Nat}
    (hstep : ∀ gm k, f gm k = gm ∨ gm.2 < (f gm k).2) :
    ∀ (l : List Nat) (gm : Grid × Nat), l.foldl f gm = gm ∨ gm.2 < (l.foldl f gm).2
  | [], _ => .inl rfl
  | k :: l, gm => by
    rw [List.foldl_cons]
    obtain hsame | hmore := foldl_eq_or_count_lt hstep l (f gm k)
    · rw [hsame]
      exact hstep gm k
    · obtain hfirst | hfirst := hstep gm k
      · rw [hfirst] at hmore ⊢
        exact .inr hmore
      · exact .inr (hfirst.trans hmore)

/-- A column's step changes nothing or counts a move (R79). -/
theorem columnStep_eq_or_count_lt (rule : SupportRule) (occ : Word) (r : Nat) (gm : Grid × Nat) (c : Nat) :
    columnStep rule occ r gm c = gm ∨ gm.2 < (columnStep rule occ r gm c).2 := by
  obtain ⟨-, hstill⟩ | ⟨-, -, hdrop⟩ := columnStep_cases rule occ r gm c
  · exact .inl hstill
  · rw [hdrop]
    exact .inr (Nat.lt_succ_self _)

/-- A pass without a move leaves the planes as they are (R84). -/
theorem passUnder_grid_of_still {rule : SupportRule} {g : Grid} (hstill : (passUnder rule g).2 = 0) :
    (passUnder rule g).1 = g := by
  have hrows : ∀ gm r, rowStep rule gm r = gm ∨ gm.2 < (rowStep rule gm r).2 := fun gm r =>
    foldl_eq_or_count_lt (columnStep_eq_or_count_lt rule gm.1.occ r) _ gm
  obtain hsame | hmoved := foldl_eq_or_count_lt hrows (List.range 7) (g, 0)
  · exact congrArg Prod.fst hsame
  · exact absurd hstill (Nat.pos_iff_ne_zero.1 hmoved)

/-! ### The loop of GRAV (R82) -/

/-- With more fuel than the sum of the row indices, the loop makes the passes before the first one without a move, and
counts them (R82, R83, log entry 14). -/
theorem gravLoop_eq_passesUnder (rule : SupportRule) {fuel : Nat} {g : Grid} (q : Nat)
    (hfuel : rowIndexSum g < fuel) :
    ∃ p, (∀ k, k < p → (passUnder rule (passesUnder rule k g)).2 ≠ 0) ∧
      (passUnder rule (passesUnder rule p g)).2 = 0 ∧ gravLoop rule fuel g q = (passesUnder rule p g, q + p) := by
  induction fuel generalizing g q with
  | zero => exact absurd hfuel (Nat.not_lt_zero _)
  | succ fuel ih =>
    by_cases hstill : (passUnder rule g).2 = 0
    · refine ⟨0, fun k hk => absurd hk (Nat.not_lt_zero k), by rwa [passesUnder_zero], ?_⟩
      rw [gravLoop_done hstill, passUnder_grid_of_still hstill, passesUnder_zero, Nat.add_zero]
    · have hless : rowIndexSum (passUnder rule g).1 < fuel := by
        have hpass := passUnder_rowIndexSum rule g
        omega
      obtain ⟨p, hmoving, hlast, hloop⟩ := ih (q + 1) hless
      refine ⟨p + 1, ?_, by rwa [passesUnder_succ], ?_⟩
      · rintro (_ | k) hk
        · rwa [passesUnder_zero]
        · rw [passesUnder_succ]
          exact hmoving k (Nat.lt_of_succ_lt_succ hk)
      · rw [gravLoop_moving hstill, hloop, passesUnder_succ, Nat.add_right_comm, Nat.add_assoc]

/-- Gravity is the passes before the first one without a move, and their number (R82, R88). -/
theorem gravityUnder_eq_passesUnder (rule : SupportRule) (g : Grid) :
    ∃ p, (∀ k, k < p → (passUnder rule (passesUnder rule k g)).2 ≠ 0) ∧
      (passUnder rule (passesUnder rule p g)).2 = 0 ∧ gravityUnder rule g = (passesUnder rule p g, p) := by
  simpa only [Nat.zero_add, gravityUnder] using gravLoop_eq_passesUnder rule 0 (Nat.lt_succ_self (rowIndexSum g))

/-- A pass after gravity moves nothing (R82). -/
theorem passUnder_gravityUnder_still (rule : SupportRule) (g : Grid) :
    (passUnder rule (gravityUnder rule g).1).2 = 0 := by
  obtain ⟨p, -, hlast, hgravity⟩ := gravityUnder_eq_passesUnder rule g
  rwa [hgravity]

/-- On a board where a pass moves nothing, gravity changes nothing and counts 0 (R82). -/
theorem gravityUnder_of_still {rule : SupportRule} {g : Grid} (hstill : (passUnder rule g).2 = 0) :
    gravityUnder rule g = (g, 0) := by
  rw [gravityUnder, gravLoop_done hstill, passUnder_grid_of_still hstill]

/-- Gravity after gravity changes nothing and counts 0 (R89). -/
theorem gravity_gravity (g : Grid) : gravity (gravity g).1 = ((gravity g).1, 0) :=
  gravityUnder_of_still (passUnder_gravityUnder_still Config.gravitySupportRule g)

end Sys2Proof.Machine
end

section
/-! PROOFS. The family of spec/20_memory.md: the commands that repeat without effect (R36, R37), and when the planes
change (R33). -/

namespace Sys2Proof.Machine

/-! ### Idempotent commands (R37) -/

/-- An assignment made twice is made once (40_cell_access.md R67). -/
theorem assignBit_assignBit (plane b : Word) (i : Nat) :
    assignBit (assignBit plane i b) i b = assignBit plane i b := by
  apply BitVec.eq_of_getLsbD_eq
  intro j hj
  simp only [assignBit_getLsbD _ _ _ _ hj]
  split <;> rfl

/-- A cell assigned twice the same value is assigned it once (R37, R67). -/
theorem Grid.setCell_setCell (g : Grid) (r c v : Nat) : (g.setCell r c v).setCell r c v = g.setCell r c v := by
  simp only [Grid.setCell, assignBit_assignBit]

/-- A second SET leaves the planes of the first, in range or not (R37). -/
theorem exec_set_idempotent (r c v : Nat) (s : State) :
    ∃ t u, exec (.set r c v) s = .next t ∧ exec (.set r c v) t = .next u ∧ u.grid = t.grid := by
  by_cases hrange : (cellInRange r c && valueInRange v) = true
  · exact ⟨_, _, exec_set_inRange hrange s, exec_set_inRange hrange _, s.grid.setCell_setCell r c v⟩
  · exact ⟨_, _, exec_set_outOfRange hrange s, exec_set_outOfRange hrange _, rfl⟩

/-- A second GRAV leaves the planes of the first, and responds `(OK, 0)` (R37, 41_gravity.md R89). -/
theorem exec_grav_idempotent (s : State) :
    ∃ t u, exec .grav s = .next t ∧ exec .grav t = .next u ∧ u.grid = t.grid ∧ u.rspStatus = 0 ∧
      u.rspData = 0 := by
  have hagain := gravity_gravity s.grid
  refine ⟨_, _, rfl, rfl, ?_, rfl, ?_⟩
  · rw [State.complete_grid, State.complete_grid, hagain]
  · rw [State.complete_rspData, State.complete_grid, hagain]
    rfl

/-- Settles O19: CLR empties the board both times. -/
theorem setClrGravAreIdempotent : Obligations.SetClrGravAreIdempotent := fun s =>
  ⟨fun r c v => exec_set_idempotent r c v s, ⟨_, _, rfl, rfl, rfl⟩, exec_grav_idempotent s⟩

/-! ### Reading commands (R36) -/

/-- GET, RDLO, RDHI and XPOSE respond and keep the planes, and the response is a function of the planes and the data
operand (R36). -/
theorem exec_reading_responds {i : Instr} (hi : (∃ r c, i = .get r c) ∨ i = .rdlo ∨ i = .rdhi ∨ i = .xpose)
    (s : State) :
    ∃ st d, ∀ u : State, u.grid = s.grid → u.held.data = s.held.data → exec i u = .next (u.respond st d) := by
  obtain ⟨r, c, rfl⟩ | rfl | rfl | rfl := hi
  · by_cases hrange : cellInRange r c = true
    · exact ⟨_, _, fun u hgrid _ => hgrid ▸ exec_get_inRange hrange u⟩
    · exact ⟨_, _, fun u _ _ => exec_get_outOfRange hrange u⟩
  · exact ⟨.ok, s.grid.lo, fun u hgrid _ => hgrid ▸ rfl⟩
  · exact ⟨.ok, s.grid.hi, fun u hgrid _ => hgrid ▸ rfl⟩
  · exact ⟨.ok, transpose s.held.data, fun u _ hdata => hdata ▸ rfl⟩

/-- Settles O20: both runs give the one response that the planes and the data operand determine. -/
theorem readingCommandsHaveNoSideEffects : Obligations.ReadingCommandsHaveNoSideEffects := by
  intro i s hi
  obtain ⟨st, d, hresponds⟩ := exec_reading_responds hi s
  exact ⟨_, hresponds s rfl rfl, rfl, fun u hgrid hdata => ⟨_, hresponds u hgrid hdata, rfl, rfl⟩⟩

/-! ### When the planes change (R33) -/

/-- An edge with `rst = 0` after the first reset keeps the planes, unless it is the completion edge (30_encoding.md R48,
R49, R51). -/
theorem clockEdge_keeps_planes_or {p : Pins} {rest : List Event} {s t : State} (hevent : s.events = .edge p :: rest)
    (h : clockEdge p rest s = .next t) :
    t.grid = s.grid ∨ s.CompletesAt p rest ∨ p.rst = true ∨ s.needsReset = true := by
  obtain ⟨hduties, ⟨hrst, -⟩ | ⟨-, hwaits, -⟩ | ⟨hrst, hreset, hphases⟩⟩ := clockEdge_cases h
  · exact .inr (.inr (.inl hrst))
  · exact .inr (.inr (.inr hwaits))
  · obtain ⟨-, -, rfl⟩ | ⟨-, -, rfl⟩ | ⟨hbusy, hdue, -⟩ | ⟨-, -, rfl⟩ | ⟨-, -, rfl⟩ | ⟨-, -, rfl⟩ := hphases
    · exact .inl rfl
    · exact .inl rfl
    · exact .inr (.inl ⟨hevent, hduties, hrst, hreset, hbusy, hdue⟩)
    · exact .inl rfl
    · exact .inl rfl
    · exact .inl rfl

/-- Settles O56: a stopped clock changes nothing, and of the edges only the three named ones can change a plane. -/
theorem planesChangeOnlyAtCompletionOrReset : Obligations.PlanesChangeOnlyAtCompletionOrReset := by
  intro s t h hchanged
  obtain ⟨-, rfl⟩ | ⟨rest, hloss, -⟩ | ⟨p, rest, hevent, hedge⟩ := step_cases h
  · exact absurd rfl hchanged
  · exact .inr (.inr (.inl ⟨rest, hloss⟩))
  · obtain hkept | hcompletes | hrst | hwaits := clockEdge_keeps_planes_or hevent hedge
    · exact absurd hkept hchanged
    · exact .inl ⟨p, rest, hcompletes⟩
    · exact .inr (.inl ⟨p, rest, hevent, hrst⟩)
    · exact .inr (.inr (.inr hwaits))

end Sys2Proof.Machine
end

section
/-! PROOFS. The family of spec/30_encoding.md, section 3: the command word as a number and as its fields (R54, R62),
the decoder and the encoder as inverses (R55, R57, R58), the rows of the opcode table (R57), and the words that are no
command (R59, R60). -/

namespace Sys2Proof

/-! ### The word as a number (R54, R62) -/

theorem cmdOpc_toNat (w : Cmd) : (cmdOpc w).toNat = w.toNat % 2 ^ 8 := by
  rw [cmdOpc, BitVec.extractLsb'_toNat, Nat.shiftRight_zero]

theorem cmdRow_toNat (w : Cmd) : (cmdRow w).toNat = w.toNat / 2 ^ 8 % 2 ^ 8 := by
  rw [cmdRow, BitVec.extractLsb'_toNat, Nat.shiftRight_eq_div_pow]

theorem cmdCol_toNat (w : Cmd) : (cmdCol w).toNat = w.toNat / 2 ^ 16 % 2 ^ 8 := by
  rw [cmdCol, BitVec.extractLsb'_toNat, Nat.shiftRight_eq_div_pow]

theorem cmdVal_toNat (w : Cmd) : (cmdVal w).toNat = w.toNat / 2 ^ 24 % 2 ^ 8 := by
  rw [cmdVal, BitVec.extractLsb'_toNat, Nat.shiftRight_eq_div_pow]

theorem cmdArgs_toNat (w : Cmd) : (cmdArgs w).toNat = w.toNat / 2 ^ 8 % 2 ^ 24 := by
  rw [cmdArgs, BitVec.extractLsb'_toNat, Nat.shiftRight_eq_div_pow]

/-- A word is the sum of its four bytes, each in its place (R54). -/
theorem toNat_eq_fields (w : Cmd) :
    w.toNat = (cmdVal w).toNat * 2 ^ 24 + (cmdCol w).toNat * 2 ^ 16 + (cmdRow w).toNat * 2 ^ 8 +
      (cmdOpc w).toNat := by
  rw [cmdVal_toNat, cmdCol_toNat, cmdRow_toNat, cmdOpc_toNat]
  have hword := w.isLt
  omega

/-- The bits [31:8] are zero iff each of the three argument bytes is (R57). -/
theorem cmdArgs_eq_zero_iff (w : Cmd) : cmdArgs w = 0 ↔ cmdRow w = 0 ∧ cmdCol w = 0 ∧ cmdVal w = 0 := by
  simp only [BitVec.toNat_eq, cmdArgs_toNat, cmdRow_toNat, cmdCol_toNat, cmdVal_toNat, BitVec.ofNat_eq_ofNat,
    BitVec.toNat_ofNat, Nat.zero_mod]
  omega

/-- An argument that fits its field is read back from it (R55). -/
theorem toNat_ofNat_byte {n : Nat} (h : n < 256) : (BitVec.ofNat 8 n).toNat = n := by
  rw [BitVec.toNat_ofNat, Nat.mod_eq_of_lt h]

/-- The encoding function as a number: its arguments are its four bytes (R62). -/
theorem enc_toNat (opc : BitVec 8) {row col value : Nat} (hrow : row < 256) (hcol : col < 256)
    (hvalue : value < 256) :
    (enc opc row col value).toNat = value * 2 ^ 24 + col * 2 ^ 16 + row * 2 ^ 8 + opc.toNat := by
  rw [toNat_eq_fields, cmdVal_enc _ _ _ _ hrow hcol, cmdCol_enc _ _ _ _ hrow hcol, cmdRow_enc _ _ _ _ hrow hcol,
    cmdOpc_enc _ _ _ _ hrow hcol, toNat_ofNat_byte hvalue, toNat_ofNat_byte hcol, toNat_ofNat_byte hrow]

/-- A word is the encoding of its own four fields (R54, R62). -/
theorem enc_fields (w : Cmd) :
    enc (cmdOpc w) (cmdRow w).toNat (cmdCol w).toNat (cmdVal w).toNat = w :=
  BitVec.eq_of_toNat_eq <| by
    rw [enc_toNat _ (cmdRow w).isLt (cmdCol w).isLt (cmdVal w).isLt, ← toNat_eq_fields]

/-- Settles O5: the number of `enc`, and the three words of R62 by evaluation. -/
theorem encodingFunctionPlacesFields : Obligations.EncodingFunctionPlacesFields :=
  ⟨fun opc _ _ _ => enc_toNat opc, by decide, by decide, by decide⟩

/-! ### Decoder and encoder (R55, R57, R58) -/

/-- The fields of a word are those of a command: its operands, and zero in every reserved field (R57). -/
def Instr.FieldsIn : Instr → Cmd → Prop
  | .get row col, w => cmdVal w = 0 ∧ row = (cmdRow w).toNat ∧ col = (cmdCol w).toNat
  | .set row col value, w => row = (cmdRow w).toNat ∧ col = (cmdCol w).toNat ∧ value = (cmdVal w).toNat
  | .clr, w | .grav, w | .gpass, w | .xpose, w | .rdlo, w | .rdhi, w => cmdArgs w = 0

/-- A word decodes to a command iff it has the command's opcode and the command's fields (R57, R58). -/
theorem decode_eq_ok_iff (w : Cmd) (i : Instr) : decode w = .ok i ↔ cmdOpc w = i.opcode ∧ i.FieldsIn w := by
  constructor
  · intro h
    have hcases := decode_ok_cases h
    cases i <;> exact hcases
  · rintro ⟨hopc, hfields⟩
    cases i with
    | get row col =>
      obtain ⟨hval, rfl, rfl⟩ := hfields
      simp [decode, decodeGet, hopc, Instr.opcode, hval]
    | set row col value =>
      obtain ⟨rfl, rfl, rfl⟩ := hfields
      simp [decode, decodeSet, hopc, Instr.opcode]
    | clr | grav | gpass | xpose | rdlo | rdhi =>
      simp only [Instr.FieldsIn] at hfields
      simp [decode, decodeBare, hopc, Instr.opcode, hfields]

/-- GET can be encoded iff its two arguments fit their fields (R55). -/
theorem Instr.wellFormed_get_iff (row col : Nat) : (Instr.get row col).WellFormed ↔ row < 256 ∧ col < 256 := by
  simp only [Instr.WellFormed, Instr.wellFormed, argEncodable, Bool.and_eq_true, decide_eq_true_eq]

/-- SET can be encoded iff its three arguments fit their fields (R55). -/
theorem Instr.wellFormed_set_iff (row col value : Nat) :
    (Instr.set row col value).WellFormed ↔ row < 256 ∧ col < 256 ∧ value < 256 := by
  simp only [Instr.WellFormed, Instr.wellFormed, argEncodable, Bool.and_eq_true, decide_eq_true_eq, and_assoc]

/-- The encoded word of a well-formed command has the command's opcode and the command's fields (R55, R62). -/
theorem encode_opcode_and_fields {i : Instr} (h : i.WellFormed) :
    cmdOpc (encode i) = i.opcode ∧ i.FieldsIn (encode i) := by
  cases i with
  | get row col =>
    obtain ⟨hopc, hrow, hcol, hval⟩ := Laws.EncodedFields.get row col h
    obtain ⟨hrowFits, hcolFits⟩ := (Instr.wellFormed_get_iff row col).1 h
    exact ⟨hopc, hval, by rw [hrow, toNat_ofNat_byte hrowFits], by rw [hcol, toNat_ofNat_byte hcolFits]⟩
  | set row col value =>
    obtain ⟨hopc, hrow, hcol, hval⟩ := Laws.EncodedFields.set row col value h
    obtain ⟨hrowFits, hcolFits, hvalFits⟩ := (Instr.wellFormed_set_iff row col value).1 h
    exact ⟨hopc, by rw [hrow, toNat_ofNat_byte hrowFits], by rw [hcol, toNat_ofNat_byte hcolFits],
      by rw [hval, toNat_ofNat_byte hvalFits]⟩
  | clr => exact Laws.EncodedFields.clr h
  | grav => exact Laws.EncodedFields.grav h
  | gpass => exact Laws.EncodedFields.gpass h
  | xpose => exact Laws.EncodedFields.xpose h
  | rdlo => exact Laws.EncodedFields.rdlo h
  | rdhi => exact Laws.EncodedFields.rdhi h

/-- Settles O1: the encoded word has the opcode and the fields by which the decoder knows the command. -/
theorem decodeInvertsEncode : Obligations.DecodeInvertsEncode := fun i h =>
  (decode_eq_ok_iff (encode i) i).2 (encode_opcode_and_fields h)

/-- The fields of a word are bytes, so a command read from them can be encoded (R55). -/
theorem wellFormed_of_fieldsIn {i : Instr} {w : Cmd} (h : i.FieldsIn w) : i.WellFormed := by
  cases i with
  | get row col =>
    obtain ⟨-, rfl, rfl⟩ := h
    exact (Instr.wellFormed_get_iff _ _).2 ⟨(cmdRow w).isLt, (cmdCol w).isLt⟩
  | set row col value =>
    obtain ⟨rfl, rfl, rfl⟩ := h
    exact (Instr.wellFormed_set_iff _ _ _).2 ⟨(cmdRow w).isLt, (cmdCol w).isLt, (cmdVal w).isLt⟩
  | clr | grav | gpass | xpose | rdlo | rdhi => rfl

/-- A word that has a command's opcode and fields is the command's encoding (R62). -/
theorem encode_eq_of_fieldsIn {i : Instr} {w : Cmd} (hopc : cmdOpc w = i.opcode) (hfields : i.FieldsIn w) :
    encode i = w := by
  have hword := enc_fields w
  rw [hopc] at hword
  cases i with
  | get row col =>
    obtain ⟨hval, rfl, rfl⟩ := hfields
    rwa [hval] at hword
  | set row col value =>
    obtain ⟨rfl, rfl, rfl⟩ := hfields
    exact hword
  | clr | grav | gpass | xpose | rdlo | rdhi =>
    obtain ⟨hrow, hcol, hval⟩ := (cmdArgs_eq_zero_iff w).1 hfields
    rwa [hrow, hcol, hval] at hword

/-- Settles O2: the fields of the word are those of the command it decodes to. -/
theorem encodeInvertsDecode : Obligations.EncodeInvertsDecode := by
  intro w i h
  obtain ⟨hopc, hfields⟩ := (decode_eq_ok_iff w i).1 h
  exact ⟨wellFormed_of_fieldsIn hfields, encode_eq_of_fieldsIn hopc hfields⟩

/-- Settles O6: the nine words, by evaluation. -/
theorem writtenWordsDecode : Obligations.WrittenWordsDecode := by
  unfold Obligations.WrittenWordsDecode
  decide

/-! ### The rows of the opcode table (R57) -/

/-- Two words with the same opcode and the same bits [31:8] are one word (R54). -/
theorem cmd_ext_iff (w w' : Cmd) : w = w' ↔ cmdOpc w = cmdOpc w' ∧ cmdArgs w = cmdArgs w' := by
  simp only [BitVec.toNat_eq, cmdOpc_toNat, cmdArgs_toNat]
  have hw := w.isLt
  have hw' := w'.isLt
  omega

/-- A row's mask selects the whole opcode, and its match has no bit outside it (R57). -/
theorem opcodeTable_masks : ∀ row ∈ opcodeTable, cmdOpc row.mask = BitVec.allOnes 8 ∧
    cmdOpc row.pattern = row.opcode ∧ cmdArgs row.pattern = 0 := by decide

/-- A word matches a row iff it has the row's opcode, and zero in each argument bit of the row's mask (R57). -/
theorem matches_row_iff {row : OpcodeRow} (hrow : row ∈ opcodeTable) (w : Cmd) :
    w &&& row.mask = row.pattern ↔ cmdOpc w = row.opcode ∧ cmdArgs w &&& cmdArgs row.mask = 0 := by
  obtain ⟨hmask, hpattern, hargs⟩ := opcodeTable_masks row hrow
  have hopc : cmdOpc (w &&& row.mask) = cmdOpc w := by
    rw [cmdOpc, BitVec.extractLsb'_and, ← cmdOpc, ← cmdOpc, hmask, BitVec.and_allOnes]
  have hand : cmdArgs (w &&& row.mask) = cmdArgs w &&& cmdArgs row.mask := BitVec.extractLsb'_and
  rw [cmd_ext_iff, hopc, hand, hpattern, hargs]

/-- The argument bits in the mask of GET are VAL (R57). -/
theorem cmdArgs_and_getMask (w : Cmd) : cmdArgs w &&& cmdArgs 0xFF0000FF = 0 ↔ cmdVal w = 0 := by
  have hmask : ∀ k, k < 24 → (cmdArgs 0xFF0000FF).getLsbD k = decide (16 ≤ k) := by decide
  constructor
  · intro h
    apply BitVec.eq_of_getLsbD_eq
    intro k hk
    have hbit : (cmdArgs w &&& cmdArgs 0xFF0000FF).getLsbD (16 + k) = false :=
      h ▸ BitVec.getLsbD_zero
    rw [BitVec.getLsbD_and, hmask _ (by omega)] at hbit
    simpa [cmdArgs, cmdVal, hk, show 16 + k < 24 by omega, ← Nat.add_assoc] using hbit
  · intro h
    apply BitVec.eq_of_getLsbD_eq
    intro k hk
    rw [BitVec.getLsbD_and, hmask k hk]
    by_cases hval : 16 ≤ k
    · have hbit := congrArg (·.getLsbD (k - 16)) h
      simpa [hval, cmdArgs, cmdVal, hk, show k - 16 < 8 by omega, show 24 + (k - 16) = 8 + k by omega] using hbit
    · simp [hval]

/-- A guarded answer is a command iff its guard holds. -/
theorem exists_ite_eq_ok_iff {P : Prop} [Decidable P] (i : Instr) (e : DecodeError) :
    (∃ j, (if P then Except.ok i else Except.error e) = Except.ok j) ↔ P := by
  split <;> simp [*]

/-- A word with the opcode of a row decodes iff each argument bit of the row's mask is zero (R57, R58). -/
theorem exists_decode_iff {row : OpcodeRow} (hrow : row ∈ opcodeTable) {w : Cmd} (hopc : cmdOpc w = row.opcode) :
    (∃ i, decode w = .ok i) ↔ cmdArgs w &&& cmdArgs row.mask = 0 := by
  have hbare : cmdArgs w &&& cmdArgs 0xFFFFFFFF = 0 ↔ cmdArgs w = 0 := by
    rw [show cmdArgs 0xFFFFFFFF = BitVec.allOnes 24 by decide, BitVec.and_allOnes]
  have hset : cmdArgs w &&& cmdArgs 0x000000FF = 0 := by
    rw [show cmdArgs 0x000000FF = 0 by decide]
    exact BitVec.and_zero
  simp only [opcodeTable, List.mem_cons, List.not_mem_nil, or_false] at hrow
  obtain rfl | rfl | rfl | rfl | rfl | rfl | rfl | rfl := hrow
  case inr.inl => -- GET
    simpa [decode, hopc, decodeGet, exists_ite_eq_ok_iff] using (cmdArgs_and_getMask w).symm
  case inr.inr.inl => -- SET
    simpa [decode, hopc, decodeSet] using hset
  all_goals -- the commands without operands
    simpa [decode, hopc, decodeBare, exists_ite_eq_ok_iff] using hbare.symm

/-- Settles O3: the opcode of what a word decodes to is the word's own, and the mask is the reserved fields. -/
theorem decodeSelectsTableRow : Obligations.DecodeSelectsTableRow := by
  intro w row hrow
  rw [matches_row_iff hrow]
  constructor
  · rintro ⟨hopc, hreserved⟩
    obtain ⟨i, hi⟩ := (exists_decode_iff hrow hopc).2 hreserved
    exact ⟨i, hi, (decode_ok_cases hi).1.symm.trans hopc⟩
  · rintro ⟨i, hi, hopcode⟩
    have hopc : cmdOpc w = row.opcode := (decode_ok_cases hi).1.trans hopcode
    exact ⟨hopc, (exists_decode_iff hrow hopc).1 ⟨i, hi⟩⟩

/-- Settles O4: a word has one opcode, and the opcodes of the rows differ. -/
theorem opcodeRowsDisjoint : Obligations.OpcodeRowsDisjoint := by
  have hdistinct : opcodeTable.Pairwise fun a b => a.opcode ≠ b.opcode := by decide
  refine hdistinct.imp_of_mem fun ha hb hne w hmatches => ?_
  obtain ⟨hmatchA, hmatchB⟩ := hmatches
  obtain ⟨hopcA, -⟩ := (matches_row_iff ha w).1 hmatchA
  obtain ⟨hopcB, -⟩ := (matches_row_iff hb w).1 hmatchB
  exact hne (hopcA.symm.trans hopcB)

/-- Each command's opcode is that of a row (R56, R57). -/
theorem exists_row_of_instr (i : Instr) : ∃ row ∈ opcodeTable, i.opcode = row.opcode := by
  cases i <;> simp [opcodeTable, Instr.opcode]

/-- A word that matches no row does not decode (R58, R60). -/
theorem decode_error_of_unmatched {w : Cmd} (h : ∀ row ∈ opcodeTable, w &&& row.mask ≠ row.pattern) :
    ∃ e, decode w = .error e := by
  cases hdecode : decode w with
  | error e => exact ⟨e, rfl⟩
  | ok i =>
    obtain ⟨row, hrow, hopcode⟩ := exists_row_of_instr i
    exact absurd ((decodeSelectsTableRow w row hrow).2 ⟨i, hdecode, hopcode⟩) (h row hrow)

/-- A word whose opcode is in no row is an illegal opcode (R58, R59). -/
theorem decode_eq_illegalOpcode {w : Cmd} (h : ∀ row ∈ opcodeTable, cmdOpc w ≠ row.opcode) :
    decode w = .error .illegalOpcode := by
  simp only [opcodeTable, List.forall_mem_cons, BitVec.ofNat_eq_ofNat] at h
  simp [decode, h]

end Sys2Proof

namespace Sys2Proof.Machine

/-! ### Words that are no command (R59, R60) -/

/-- A word that decodes runs as the command it decodes to (30_encoding.md R58). -/
theorem runHeld_of_ok {w : Cmd} {i : Instr} (h : decode w = .ok i) (s : State) : runHeld w s = exec i s := by
  simp [runHeld, h]

/-- A word that does not decode takes its error (60_exceptions.md R96). -/
theorem runHeld_of_error {w : Cmd} {e : DecodeError} (h : decode w = .error e) (s : State) :
    runHeld w s = .next (s.raise (decodeErrorStatus e)) := by
  simp [runHeld, h]

/-- Settles O7: the opcodes of the rows are 1 to 8. -/
theorem illegalOpcodesCompleteWithErrOpc : Obligations.IllegalOpcodesCompleteWithErrOpc := by
  intro w s hopc
  have hrange : ∀ row ∈ opcodeTable, row.opcode ≠ 0 ∧ row.opcode.toNat < 9 := by decide
  have hunmapped : ∀ row ∈ opcodeTable, cmdOpc w ≠ row.opcode := by
    intro row hrow heq
    obtain ⟨hzero, hlt⟩ := hrange row hrow
    rw [← heq] at hzero hlt
    obtain hopc | hopc := hopc
    · exact hzero hopc
    · omega
  exact ⟨_, runHeld_of_error (decode_eq_illegalOpcode hunmapped) s⟩

/-- Settles O11: the word takes the status of one of the two decode errors. -/
theorem unmatchedWordsCompleteWithError : Obligations.UnmatchedWordsCompleteWithError := by
  intro w s hunmatched
  obtain ⟨e, he⟩ := decode_error_of_unmatched hunmatched
  refine ⟨_, runHeld_of_error he s, ?_, rfl, rfl⟩
  cases e with
  | illegalOpcode => exact .inl rfl
  | reservedField => exact .inr rfl

end Sys2Proof.Machine
end

section
/-! PROOFS. The family of spec/30_encoding.md, sections 1, 2 and 4: what a command reads (R44, R53), the edges of the
handshake by phase (R47 to R51), the host's duties (R52), a command from acceptance to completion (R49), and the
assembler (R63, R64). -/

namespace Sys2Proof.Machine

/-! ### What a command reads (R44, R53) -/

/-- The planes, the status and the data that a command gives are a function of the planes it finds and, for XPOSE, of
the data operand (R44, R53). -/
theorem exec_determined (i : Instr) (g : Grid) (data : Word) :
    ∃ g' st d, ∀ s : State, s.grid = g → (i = .xpose → s.held.data = data) →
      exec i s = .next (s.complete g' st d) := by
  cases i with
  | get row col =>
    by_cases hrange : cellInRange row col = true
    · exact ⟨g, .ok, (g.cell row col).setWidth 64, fun s hgrid _ => hgrid ▸ exec_get_inRange hrange s⟩
    · exact ⟨g, .errArg, 0, fun s hgrid _ => hgrid ▸ exec_get_outOfRange hrange s⟩
  | set row col value =>
    by_cases hrange : (cellInRange row col && valueInRange value) = true
    · exact ⟨g.setCell row col value, .ok, 0, fun s hgrid _ => hgrid ▸ exec_set_inRange hrange s⟩
    · exact ⟨g, .errArg, 0, fun s hgrid _ => hgrid ▸ exec_set_outOfRange hrange s⟩
  | clr => exact ⟨Grid.empty, .ok, 0, fun s _ _ => rfl⟩
  | grav => exact ⟨(gravity g).1, .ok, BitVec.ofNat 64 (gravity g).2, fun s hgrid _ => hgrid ▸ rfl⟩
  | gpass => exact ⟨(gpass g).1, .ok, BitVec.ofNat 64 (gpass g).2, fun s hgrid _ => hgrid ▸ rfl⟩
  | xpose => exact ⟨g, .ok, transpose data, fun s hgrid hdata => hgrid ▸ hdata rfl ▸ rfl⟩
  | rdlo => exact ⟨g, .ok, g.lo, fun s hgrid _ => hgrid ▸ rfl⟩
  | rdhi => exact ⟨g, .ok, g.hi, fun s hgrid _ => hgrid ▸ rfl⟩

/-- Settles O23: both runs complete with what the planes determine, and completion discards the operand. -/
theorem onlyXposeReadsTheDataOperand : Obligations.OnlyXposeReadsTheDataOperand := by
  intro i s d hne
  obtain ⟨g', st, d', hexec⟩ := exec_determined i s.grid d
  rw [hexec s rfl (absurd · hne), hexec { s with held := { s.held with data := d } } rfl (absurd · hne)]
  rfl

/-- A captured word, a command or not, gives what the planes and the data operand determine (R53, R58). -/
theorem runHeld_determined (w : Cmd) (g : Grid) (data : Word) :
    ∃ g' st d, ∀ s : State, s.grid = g → s.held.data = data → runHeld w s = .next (s.complete g' st d) := by
  cases hdecode : decode w with
  | ok i =>
    obtain ⟨g', st, d, hexec⟩ := exec_determined i g data
    exact ⟨g', st, d, fun s hgrid hdata => (runHeld_of_ok hdecode s).trans (hexec s hgrid fun _ => hdata)⟩
  | error e =>
    exact ⟨g, decodeErrorStatus e, 0, fun s hgrid _ => hgrid ▸ runHeld_of_error hdecode s⟩

/-- A captured word gives the response of the transaction function (R53). -/
theorem runHeld_eq_transact (w : Cmd) (s : State) :
    ∃ t, runHeld w s = .next t ∧ t.phase = .resp ∧
      transact s.grid w s.held.data = .next (t.grid, t.rspStatus, t.rspData) := by
  obtain ⟨g', st, d, hrun⟩ := runHeld_determined w s.grid s.held.data
  refine ⟨_, hrun s rfl rfl, rfl, ?_⟩
  unfold transact
  rw [hrun { State.reset with
    grid := s.grid, phase := .busy, held := ⟨w, s.held.data, 1, freeProgress 0⟩ } rfl rfl]
  rfl

/-! ### The ports (R47, R50) -/

/-- `rsp_valid = 1` iff `PHASE = RESP` (R50). -/
theorem State.rspValid_iff (s : State) : s.rspValid = true ↔ s.phase = .resp := by
  simp [State.rspValid]

/-- `req_ready = 1` iff `PHASE = IDLE` and `rst = 0` (R47). -/
theorem State.reqReady_iff (s : State) (rst : Bool) : s.reqReady rst = true ↔ s.phase = .idle ∧ rst = false := by
  simp [State.reqReady]

/-- Settles O47: with `rsp_valid = 1` the wires are the registers. -/
theorem outputPortsFollowPhase : Obligations.OutputPortsFollowPhase := fun s rst =>
  ⟨s.reqReady_iff rst, s.rspValid_iff, fun hvalid => ⟨if_pos hvalid, if_pos hvalid⟩⟩

/-! ### One edge by phase (R48 to R51) -/

/-- The next event is an edge. -/
theorem step_eq_clockEdge {s : State} {p : Pins} {rest : List Event} (hevent : s.events = .edge p :: rest) :
    step s = clockEdge p rest s := by
  simp [step, nextEvent, hevent]

section
variable {s : State} {p : Pins} {rest : List Event} (hevent : s.events = .edge p :: rest)
  (hduties : hostBreach p s = none) (hrst : p.rst = false) (hreset : s.needsReset = false)
include hevent hduties hrst hreset

/-- An edge with `rst = 0`, a dutiful host and a block that was reset is the edge of its phase. -/
theorem step_eq_phaseEdge : step s = phaseEdge p (s.passEdge p rest) := by
  rw [step_eq_clockEdge hevent]
  simp [clockEdge, hduties, hrst, hreset]

/-- In IDLE a request is accepted, and without one nothing happens (R48). -/
theorem step_of_idle (hidle : s.phase = .idle) :
    step s = .next (if p.reqValid then (s.passEdge p rest).accept p else s.passEdge p rest) := by
  rw [step_eq_phaseEdge hevent hduties hrst hreset]
  simp [phaseEdge, hidle]

/-- While BUSY, at the completion edge, the captured word runs (R49). -/
theorem step_of_due (hbusy : s.phase = .busy) (hdue : s.held.edgesLeft ≤ 1) :
    step s = runHeld s.held.cmd (s.passEdge p rest) := by
  rw [step_eq_phaseEdge hevent hduties hrst hreset]
  simp [phaseEdge, hbusy, hdue]

/-- While BUSY, before the completion edge, the edge is counted (R49). -/
theorem step_of_ahead (hbusy : s.phase = .busy) (hahead : 1 < s.held.edgesLeft) :
    step s = .next (s.passEdge p rest).countDown := by
  rw [step_eq_phaseEdge hevent hduties hrst hreset]
  simp [phaseEdge, hbusy, hahead.not_ge]

/-- In RESP the response is taken or held (R51). -/
theorem step_of_resp (hresp : s.phase = .resp) :
    step s = .next (if p.rspReady then (s.passEdge p rest).takeResponse else s.passEdge p rest) := by
  rw [step_eq_phaseEdge hevent hduties hrst hreset]
  simp [phaseEdge, hresp]

/-- In IDLE a request is accepted (R48). -/
theorem step_accepts (hidle : s.phase = .idle) (hvalid : p.reqValid = true) :
    step s = .next ((s.passEdge p rest).accept p) := by
  rw [step_of_idle hevent hduties hrst hreset hidle, if_pos hvalid]

end

/-- At the completion edge the step runs the captured word (R49). -/
theorem State.CompletesAt.step_eq {s : State} {p : Pins} {rest : List Event} (h : s.CompletesAt p rest) :
    step s = runHeld s.held.cmd (s.passEdge p rest) :=
  step_of_due h.event h.duties h.noReset h.wasReset h.busy h.due

/-- Settles O44: the two ways a captured word can decode. -/
theorem stepRunsTheHeldCommand : Obligations.StepRunsTheHeldCommand := fun _ _ _ hcompletes =>
  ⟨fun _ hdecode => hcompletes.step_eq.trans (runHeld_of_ok hdecode _),
    fun _ hdecode => hcompletes.step_eq.trans (runHeld_of_error hdecode _)⟩

/-- Settles O45: the latency of the accepted command is between its two bounds. -/
theorem idleBlockAcceptsARequest : Obligations.IdleBlockAcceptsARequest :=
  fun _ _ _ hevent hduties hrst hreset hidle hvalid =>
    ⟨_, _, latency_pos _ _ _ _, latency_le _ _ _ _, step_accepts hevent hduties hrst hreset hidle hvalid⟩

/-- Settles O46: each phase's edge. -/
theorem otherEdgesHoldOrRelease : Obligations.OtherEdgesHoldOrRelease := by
  intro s p rest hevent hduties hrst hreset
  refine ⟨fun hidle hnone => ?waits, fun hbusy hahead => ?counts, fun hresp htaken => ?released,
    fun hresp hheld => ?held⟩
  case waits =>
    rw [step_of_idle hevent hduties hrst hreset hidle, if_neg (by simp [hnone]), ← Pins.request_none hnone]
    rfl
  case counts => exact ⟨_, step_of_ahead hevent hduties hrst hreset hbusy hahead⟩
  case released =>
    rw [step_of_resp hevent hduties hrst hreset hresp, if_pos htaken]
    rfl
  case held =>
    rw [step_of_resp hevent hduties hrst hreset hresp, if_neg (by simp [hheld])]
    rfl

/-- Settles O57: the edge passes without a change to the planes and the captured operand. -/
theorem completionIsTheTransactionFunction : Obligations.CompletionIsTheTransactionFunction := by
  intro s p rest hcompletes
  rw [hcompletes.step_eq]
  exact runHeld_eq_transact s.held.cmd (s.passEdge p rest)

/-! ### The host's duties (R52) -/

/-- Settles O50: the duties in the order in which they are checked, each with those before it kept. -/
theorem brokenHostDutiesAreRefused : Obligations.BrokenHostDutiesAreRefused := by
  intro s p rest hevent
  rw [step_eq_clockEdge hevent]
  refine ⟨fun q hoffered hchanged => clockEdge_refused ?notHeld, fun hkeeps => ?_⟩
  case notHeld =>
    have hbroken : holdsRequest p s = false := by
      rw [← Bool.not_eq_true, holdsRequest_iff, hoffered]
      simp [hchanged]
    simp [hostBreach, hbroken]
  have hholds : holdsRequest p s = true := (holdsRequest_iff p s).2 hkeeps
  refine ⟨fun hsamples hphase => clockEdge_refused ?sampled, fun hsampling => ?_⟩
  case sampled => simp [hostBreach, hholds, hsamples, State.rspValid, hphase]
  have hsample : (p.samplesRsp && !s.rspValid) = false := by simpa [State.rspValid] using hsampling
  constructor
  · intro hready
    exact clockEdge_refused (by simp [hostBreach, hholds, hsample, hready])
  · intro hready hwaits hvalid hrst
    exact clockEdge_refused (by simp [hostBreach, hholds, hsample, hready, hwaits, hvalid, hrst])

/-! ### From acceptance to completion (R49, R120) -/

/-- A run starts with its first step. -/
theorem runSteps_succ {s u : State} (h : step s = .next u) (k : Nat) : runSteps (k + 1) s = runSteps k u := by
  simp [runSteps, Host.Core.run, core, h]

/-- A run that answers a next state has a first step. -/
theorem exists_step_of_runSteps {k : Nat} {s t : State} (h : runSteps (k + 1) s = .next t) :
    ∃ u, step s = .next u ∧ runSteps k u = .next t := by
  cases hstep : step s with
  | next u => exact ⟨u, rfl, runSteps_succ hstep k ▸ h⟩
  | fault f => cases f
  | refused r => simp [runSteps, Host.Core.run, core, hstep] at h

/-- A block that was reset is BUSY, with `n` edges left of a command on planes `g`, and the edges `es` come next with
`rst = 0` (R49). -/
structure State.RunsOn (s : State) (n : Nat) (es : List Pins) (rest : List Event) : Prop where
  wasReset : s.needsReset = false
  busy : s.phase = .busy
  left : s.held.edgesLeft = n
  events : s.events = es.map .edge ++ rest
  noReset : ∀ q ∈ es, q.rst = false

section
variable {s : State} {n : Nat} {q : Pins} {es : List Pins} {rest : List Event}

/-- With one edge left the next edge is the completion edge (R49). -/
theorem State.RunsOn.completesAt (h : s.RunsOn 1 (q :: es) rest) (hduties : hostBreach q s = none) :
    s.CompletesAt q (es.map .edge ++ rest) :=
  ⟨h.events, hduties, h.noReset q List.mem_cons_self, h.wasReset, h.busy, h.left.le⟩

/-- With more edges left the next edge is counted, and the command runs on (R49). -/
theorem State.RunsOn.countDown (h : s.RunsOn (n + 2) (q :: es) rest) (hduties : hostBreach q s = none) :
    step s = .next (s.passEdge q (es.map .edge ++ rest)).countDown ∧
      (s.passEdge q (es.map .edge ++ rest)).countDown.RunsOn (n + 1) es rest := by
  have hahead : 1 < s.held.edgesLeft := by rw [h.left]; omega
  refine ⟨step_of_ahead h.events hduties (h.noReset q List.mem_cons_self) h.wasReset h.busy hahead,
    h.wasReset, h.busy, ?_, rfl, fun q' hq' => h.noReset q' (List.mem_cons_of_mem q hq')⟩
  rw [State.countDown_held, State.passEdge_held, h.left]
  rfl

/-- A step at an edge means that the host kept its duties. -/
theorem State.RunsOn.duties {t : State} (h : s.RunsOn n (q :: es) rest) (hstep : step s = .next t) :
    hostBreach q s = none :=
  (clockEdge_cases ((step_eq_clockEdge h.events).symm.trans hstep)).1

end

/-- A run of a command in progress: before the completion edge the block is BUSY with the planes as they were, and at it
the response is the transaction function's (R49, R53). -/
theorem State.RunsOn.runSteps_next {es : List Pins} {rest : List Event} {n : Nat} {s t : State}
    (h : s.RunsOn (n + 1) es rest) (hrun : runSteps es.length s = .next t) :
    (es.length < n + 1 → t.phase = .busy ∧ t.grid = s.grid) ∧
    (es.length = n + 1 → t.phase = .resp ∧
      transact s.grid s.held.cmd s.held.data = .next (t.grid, t.rspStatus, t.rspData)) := by
  induction es generalizing n s with
  | nil =>
    cases hrun
    exact ⟨fun _ => ⟨h.busy, rfl⟩, fun hzero => absurd hzero (Nat.succ_ne_zero n).symm⟩
  | cons q es ih =>
    obtain ⟨u, hstep, hlater⟩ := exists_step_of_runSteps hrun
    have hduties := h.duties hstep
    cases n with
    | zero =>
      refine ⟨fun hlt => absurd hlt (by simp), fun hlast => ?_⟩
      obtain rfl : es = [] := List.length_eq_zero_iff.1 (Nat.succ.inj hlast)
      cases hlater
      obtain ⟨t', hstep', hresponse⟩ := completionIsTheTransactionFunction s q _ (h.completesAt hduties)
      cases hstep'.symm.trans hstep
      exact hresponse
    | succ n =>
      obtain ⟨hcounts, hruns⟩ := h.countDown hduties
      cases hcounts.symm.trans hstep
      obtain ⟨hbefore, hat⟩ := ih hruns hlater
      exact ⟨fun hlt => hbefore (Nat.lt_of_succ_lt_succ hlt), fun hlast => hat (Nat.succ.inj hlast)⟩

/-- A host is quiet at an edge: it presents no request, samples no response and makes `rsp_ready` from its own state
(R52). -/
def Pins.Quiet (p : Pins) : Prop := p.reqValid = false ∧ p.samplesRsp = false ∧ p.readyFromOutputs = false

/-- A quiet host that is bound to no request keeps its duties (R52). -/
theorem Pins.Quiet.hostBreach_none {p : Pins} (h : p.Quiet) {s : State} (hoffered : s.offered = none) :
    hostBreach p s = none := by
  obtain ⟨hvalid, hsamples, hready⟩ := h
  exact (hostBreach_none_iff p s).2 ⟨.inl hoffered, by simp [hsamples], hready, by simp [hvalid]⟩

/-- A command in progress runs up to its completion edge while the host is quiet (R120). -/
theorem State.RunsOn.exists_runSteps {es : List Pins} {rest : List Event} {n : Nat} {s : State}
    (h : s.RunsOn (n + 1) es rest) (hoffered : s.offered = none) (hquiet : ∀ q ∈ es, q.Quiet)
    (hlength : es.length ≤ n + 1) : ∃ t, runSteps es.length s = .next t := by
  induction es generalizing n s with
  | nil => exact ⟨s, rfl⟩
  | cons q es ih =>
    obtain ⟨hq, hquiet⟩ := List.forall_mem_cons.1 hquiet
    have hduties := hq.hostBreach_none hoffered
    rw [List.length_cons] at hlength ⊢
    cases n with
    | zero =>
      obtain rfl : es = [] := List.length_eq_zero_iff.1 (by omega)
      obtain ⟨t, hstep, -⟩ := completionIsTheTransactionFunction s q _ (h.completesAt hduties)
      exact ⟨t, runSteps_succ hstep 0⟩
    | succ n =>
      obtain ⟨hcounts, hruns⟩ := h.countDown hduties
      rw [runSteps_succ hcounts]
      exact ih hruns (Pins.request_none hq.1) hquiet (Nat.le_of_succ_le_succ hlength)

/-- Settles O58: acceptance starts a command with its latency ahead, and the rest is its run. -/
theorem acceptedCommandCompletesWithinLatency : Obligations.AcceptedCommandCompletesWithinLatency := by
  intro s p tail hevent hduties hrst hreset hidle hvalid
  have haccepts := step_accepts hevent hduties hrst hreset hidle hvalid
  refine ⟨_, latency_pos _ _ _ (s.tick + 1), latency_le _ _ _ _, fun es rest htail hnoReset => ?_⟩
  have hruns : ((s.passEdge p tail).accept p).RunsOn (Config.latency (cmdOpc p.reqCmd) s.grid.lo s.grid.hi (s.tick + 1))
      es rest := ⟨hreset, rfl, rfl, htail, hnoReset⟩
  rw [runSteps_succ haccepts]
  exact ⟨hruns.exists_runSteps rfl, fun t => hruns.runSteps_next⟩

/-! ### The assembler (R63, R64) -/

/-- A command with a command word alone gives its word where it can be encoded, and else an assembly error (R63). -/
theorem asmCommand_eq {P : Prop} [Decidable P] {i : Instr} (h : i.WellFormed ↔ P) :
    asmCommand i = if P then .ok ⟨encode i, none⟩ else .error .operandOutOfRange :=
  ite_congr (propext h) (fun _ => rfl) fun _ => rfl

/-- Settles O59: each mnemonic selects its command, whose operands fit where it is well formed. -/
theorem assemblerGivesTheEncodedWords : Obligations.AssemblerGivesTheEncodedWords := fun r c v _ _ =>
  ⟨asmCommand_eq (Instr.wellFormed_get_iff r c), asmCommand_eq (Instr.wellFormed_set_iff r c v),
    rfl, rfl, rfl, rfl, rfl, rfl, rfl, rfl, rfl⟩

end Sys2Proof.Machine
end

section
/-! PROOFS. The family of spec/40_cell_access.md: the five cell access commands with operands in range (R65 to R69), and
what a read gives after a SET (R70, R71). -/

namespace Sys2Proof.Machine

/-! ### The commands without operands (R65, R68, R69) -/

/-- CLR (R65). -/
theorem exec_clr (s : State) : exec .clr s = .next (s.complete Grid.empty .ok 0) := rfl

/-- RDLO (R68). -/
theorem exec_rdlo (s : State) : exec .rdlo s = .next (s.respond .ok s.grid.lo) := rfl

/-- RDHI (R69). -/
theorem exec_rdhi (s : State) : exec .rdhi s = .next (s.respond .ok s.grid.hi) := rfl

/-- Settles O13: CLR completes with the empty board. -/
theorem clrEmptiesTheBoard : Obligations.ClrEmptiesTheBoard := exec_clr

/-- Settles O16: each command responds with its plane. -/
theorem planeReadsReturnThePlane : Obligations.PlaneReadsReturnThePlane := fun s => ⟨exec_rdlo s, exec_rdhi s⟩

/-! ### GET (R66) -/

/-- GET of a cell that exists responds with the cell as a number (R66). -/
theorem exec_get_of_lt {r c : Nat} (hr : r < 8) (hc : c < 8) (s : State) :
    exec (.get r c) s = .next (s.respond .ok (BitVec.ofNat 64 (s.grid.cell r c).toNat)) := by
  rw [BitVec.ofNat_toNat]
  exact exec_get_inRange ((cellInRange_iff r c).2 ⟨hr, hc⟩) s

/-- Settles O14: the cell as a number is the two bits of the statement. -/
theorem getReturnsTheCell : Obligations.GetReturnsTheCell := by
  intro row col s hrow hcol
  rw [exec_get_of_lt hrow hcol, Grid.cell_toNat]
  rfl

/-! ### SET (R67) -/

/-- SET of a cell that exists to a value it can hold completes with the cell assigned (R67). -/
theorem exec_set_of_lt {r c v : Nat} (hr : r < 8) (hc : c < 8) (hv : v < 4) (s : State) :
    exec (.set r c v) s = .next (s.complete (s.grid.setCell r c v) .ok 0) :=
  exec_set_inRange (Bool.and_eq_true_iff.2 ⟨(cellInRange_iff r c).2 ⟨hr, hc⟩, (valueInRange_iff v).2 hv⟩) s

/-- `LO` after a cell is assigned: bit 0 of the value at the cell's index, and elsewhere as before (R67). -/
theorem Grid.setCell_lo_getLsbD (g : Grid) (r c v : Nat) {j : Nat} (hj : j < 64) :
    (g.setCell r c v).lo.getLsbD j = if j = cellIndex r c then v.testBit 0 else g.lo.getLsbD j := by
  have hbit : (BitVec.ofNat 64 v).getLsbD 0 = v.testBit 0 := by
    rw [BitVec.getLsbD_ofNat]
    rfl
  rw [Grid.setCell, assignBit_getLsbD _ _ _ _ hj, hbit]

/-- `HI` after a cell is assigned: bit 1 of the value at the cell's index, and elsewhere as before (R67). -/
theorem Grid.setCell_hi_getLsbD (g : Grid) (r c v : Nat) {j : Nat} (hj : j < 64) :
    (g.setCell r c v).hi.getLsbD j = if j = cellIndex r c then v.testBit 1 else g.hi.getLsbD j := by
  have hbit : (BitVec.ofNat 64 v >>> 1).getLsbD 0 = v.testBit 1 := by
    rw [BitVec.getLsbD_ushiftRight, BitVec.getLsbD_ofNat]
    rfl
  rw [Grid.setCell, assignBit_getLsbD _ _ _ _ hj, hbit]

/-- Settles O15: SET completes with the assigned cell, whose planes are known at every bit. -/
theorem setAssignsOneCell : Obligations.SetAssignsOneCell := fun row col value s hrow hcol hvalue =>
  ⟨(s.grid.setCell row col value).lo, (s.grid.setCell row col value).hi, exec_set_of_lt hrow hcol hvalue s,
    fun _ hj => ⟨s.grid.setCell_lo_getLsbD row col value hj, s.grid.setCell_hi_getLsbD row col value hj⟩⟩

/-! ### Reads after a SET (R70, R71) -/

/-- The own bit of an assigned cell in `LO` is `v & 1` (R71). -/
theorem Grid.setCell_lo_toNat (g : Grid) {r c : Nat} (v : Nat) (hr : r < 8) (hc : c < 8) :
    ((g.setCell r c v).lo.getLsbD (cellIndex r c)).toNat = v % 2 := by
  rw [g.setCell_lo_getLsbD r c v (cellIndex_lt hr hc), if_pos rfl, Nat.toNat_testBit, pow_zero, Nat.div_one]

/-- The own bit of an assigned cell in `HI` is `v >> 1` for a value the cell can hold (R71). -/
theorem Grid.setCell_hi_toNat (g : Grid) {r c v : Nat} (hr : r < 8) (hc : c < 8) (hv : v < 4) :
    ((g.setCell r c v).hi.getLsbD (cellIndex r c)).toNat = v / 2 := by
  rw [g.setCell_hi_getLsbD r c v (cellIndex_lt hr hc), if_pos rfl, Nat.toNat_testBit]
  omega

/-- An assigned cell holds the value (R67, R70). -/
theorem Grid.setCell_cell_same (g : Grid) {r c v : Nat} (hr : r < 8) (hc : c < 8) (hv : v < 4) :
    ((g.setCell r c v).cell r c).toNat = v := by
  rw [Grid.cell_toNat, g.setCell_lo_toNat v hr hc, g.setCell_hi_toNat hr hc hv]
  exact Nat.div_add_mod v 2

/-- Settles O17: GET reads the assigned cell, or another one, which SET left as it was. -/
theorem getAfterSetReadsTheValue : Obligations.GetAfterSetReadsTheValue := by
  intro r c v s hr hc hv
  refine ⟨_, exec_set_of_lt hr hc hv s, ⟨_, exec_get_of_lt hr hc _, rfl, ?same⟩, fun r' c' hr' hc' hne =>
    ⟨_, exec_get_of_lt hr' hc' _, rfl, ?other⟩⟩
  case same => rw [State.respond_rspData, State.complete_grid, s.grid.setCell_cell_same hr hc hv]
  case other =>
    rw [State.respond_rspData, State.complete_grid, s.grid.setCell_cell_of_ne v hc hr' hc' hne, BitVec.ofNat_toNat]

/-- Settles O18: the plane reads respond with the planes of the assigned cell. -/
theorem planeReadsShowASetCell : Obligations.PlaneReadsShowASetCell := fun _ _ v s hr hc hv =>
  ⟨_, _, _, exec_set_of_lt hr hc hv s, exec_rdlo _, exec_rdhi _, s.grid.setCell_lo_toNat v hr hc,
    s.grid.setCell_hi_toNat hr hc hv⟩

end Sys2Proof.Machine
end

section
/-! PROOFS. The family of spec/41_gravity.md: one column of a row-step in terms of cells (R74 to R76), its effect on the
sum of the row indices (R83), what gravity reads (R73), and the two commands (R81, R82). -/

namespace Sys2Proof.Machine

/-! ### The commands (R81, R82) -/

/-- Settles O29. -/
theorem gpassCompletesWithOnePass : Obligations.GpassCompletesWithOnePass := fun _ => rfl

/-- GRAV completes with the planes and the count of `gravity` (R82). -/
theorem exec_grav (s : State) :
    exec .grav s = .next (s.complete (gravity s.grid).1 .ok (BitVec.ofNat 64 (gravity s.grid).2)) := rfl

/-- Settles O30: the loop makes the passes before the first one without a move. -/
theorem gravRunsPassesToTheFixedPoint : Obligations.GravRunsPassesToTheFixedPoint := by
  intro s
  obtain ⟨p, hmoving, hlast, hgravity⟩ := gravityUnder_eq_passesUnder Config.gravitySupportRule s.grid
  refine ⟨p, hmoving, hlast, ?_⟩
  rw [exec_grav, gravity, hgravity]
  rfl

/-! ### The sum of the row indices (R83) -/

/-- Settles O32: one column of a row-step drops one piece or none, and a pass is such steps. -/
theorem movesLowerTheRowIndexSum : Obligations.MovesLowerTheRowIndexSum := by
  refine ⟨fun g m r c hr hc => ?_, passUnder_rowIndexSum Config.gravitySupportRule⟩
  obtain hstill | ⟨a, -, -, hpiece, hempty, hdrop⟩ :=
    columnStep_eq_or_drops .allBelow g.occ (g, m) (Nat.le_of_lt_succ hr) hc
  · simp only [hstill]
    exact .inl ⟨trivial, trivial⟩
  · simp only [hdrop]
    exact .inr ⟨trivial, rowIndexSum_drop g hc hpiece hempty⟩

/-! ### What gravity reads (R73) -/

/-- Two boards with the same occupancy, and two equal counts of moves. -/
def SameOcc (x y : Grid × Nat) : Prop := x.1.occ = y.1.occ ∧ x.2 = y.2

/-- A column's step with one snapshot keeps equal occupancy and equal counts (R73). -/
theorem columnStep_sameOcc (rule : SupportRule) (occ : Word) (r c : Nat) {x y : Grid × Nat} (h : SameOcc x y) :
    SameOcc (columnStep rule occ r x c) (columnStep rule occ r y c) := by
  obtain ⟨hocc, hcount⟩ := h
  by_cases hstill : sourceMask rule occ r c = 0
  · simp only [columnStep, if_pos hstill]
    exact ⟨hocc, hcount⟩
  · simp only [columnStep, if_neg hstill]
    exact ⟨by rw [Grid.drop_occ, Grid.drop_occ, hocc], congrArg (· + 1) hcount⟩

/-- A row-step takes its snapshot from the occupancy, and so keeps equal occupancy and equal counts (R73, R77). -/
theorem rowStep_sameOcc (rule : SupportRule) (r : Nat) {x y : Grid × Nat} (h : SameOcc x y) :
    SameOcc (rowStep rule x r) (rowStep rule y r) := by
  rw [rowStep, rowStep, h.1]
  exact List.foldl_rel h fun c _ _ _ => columnStep_sameOcc rule y.1.occ r c

/-- Boards with the same occupancy have the same occupancy and the same move count after a pass (R73). -/
theorem passUnder_sameOcc (rule : SupportRule) {g h : Grid} (hocc : g.occ = h.occ) :
    SameOcc (passUnder rule g) (passUnder rule h) :=
  List.foldl_rel (⟨hocc, rfl⟩ : SameOcc (g, 0) (h, 0)) fun r _ _ _ => rowStep_sameOcc rule r

/-- Boards with the same occupancy run the loop of GRAV alike (R73). -/
theorem gravLoop_sameOcc (rule : SupportRule) (fuel : Nat) {g h : Grid} (hocc : g.occ = h.occ) (p : Nat) :
    SameOcc (gravLoop rule fuel g p) (gravLoop rule fuel h p) := by
  induction fuel generalizing g h p with
  | zero => exact ⟨hocc, rfl⟩
  | succ fuel ih =>
    obtain ⟨hoccAfter, hmoves⟩ := passUnder_sameOcc rule hocc
    by_cases hstill : (passUnder rule h).2 = 0
    · rw [gravLoop_done hstill, gravLoop_done (hmoves.trans hstill)]
      exact ⟨hoccAfter, rfl⟩
    · rw [gravLoop_moving hstill, gravLoop_moving (hmoves.trans_ne hstill)]
      exact ih hoccAfter (p + 1)

/-- Settles O31: the sum of the row indices, which is the fuel of the loop, reads occupancy only. -/
theorem gravitySeesOnlyOccupancy : Obligations.GravitySeesOnlyOccupancy := by
  intro g h hocc
  obtain ⟨hoccAfter, hmoves⟩ := passUnder_sameOcc Config.gravitySupportRule hocc
  have hfuel : rowIndexSum g = rowIndexSum h := by rw [rowIndexSum, hocc, rowIndexSum]
  refine ⟨hoccAfter, hmoves, ?_⟩
  rw [gravity, gravity, gravityUnder, gravityUnder, hfuel]
  exact (gravLoop_sameOcc Config.gravitySupportRule _ hocc 0).2

/-! ### Targets and sources in terms of cells (R74, R75) -/

/-- The target rule ALL_BELOW cell by cell (R74). -/
theorem isTarget_allBelow_iff {occ : Word} {r c : Nat} (hr : r < 8) (hc : c < 8) :
    isTarget .allBelow occ r c = true ↔
      occ.getLsbD (cellIndex r c) = false ∧ ∀ k, k < r → occ.getLsbD (cellIndex k c) = true := by
  have hmask : occ &&& belowMask r c = belowMask r c ↔ ∀ k, k < r → occ.getLsbD (cellIndex k c) = true := by
    constructor
    · intro heq k hk
      have hi : cellIndex k c < 64 := cellIndex_lt (hk.trans hr) hc
      have hbit := congrArg (·.getLsbD (cellIndex k c)) heq
      have hin : (belowMask r c).getLsbD (cellIndex k c) = true := by
        rw [belowMask_getLsbD hr hc hi, Bool.and_eq_true, decide_eq_true_eq, decide_eq_true_eq]
        unfold cellIndex
        omega
      simpa [hin] using hbit
    · intro hbelow
      apply BitVec.eq_of_getLsbD_eq
      intro i hi
      rw [BitVec.getLsbD_and, belowMask_getLsbD hr hc hi]
      by_cases hin : i % 8 = c ∧ i / 8 < r
      · obtain ⟨rfl, hlt⟩ := hin
        have hbit := hbelow (i / 8) hlt
        rw [cellIndex_div_mod] at hbit
        simp [hbit]
      · rw [← Bool.decide_and, decide_eq_false hin, Bool.and_false]
  simp only [isTarget, Bool.and_eq_true, Bool.not_eq_true', Bool.or_eq_true, beq_iff_eq, hmask]
  refine and_congr_right fun _ => or_iff_right_of_imp ?_
  rintro rfl k hk
  exact absurd hk (Nat.not_lt_zero k)

/-- An empty cell with every cell below it occupied is a target under both rules (R74, 92_eei_decisions.md D10). -/
theorem isTarget_of_supported (rule : SupportRule) {occ : Word} {r c : Nat} (hr : r < 8) (hc : c < 8)
    (hempty : occ.getLsbD (cellIndex r c) = false) (hbelow : ∀ k, k < r → occ.getLsbD (cellIndex k c) = true) :
    isTarget rule occ r c = true := by
  cases rule with
  | allBelow => exact (isTarget_allBelow_iff hr hc).2 ⟨hempty, hbelow⟩
  | directlyBelow =>
    obtain rfl | hpos := Nat.eq_zero_or_pos r
    · simp [isTarget, hempty]
    · simp [isTarget, hempty, hbelow (r - 1) (by omega)]

/-- The lowest piece above a target is the source (R75). -/
theorem sourceMask_eq_of_lowest {rule : SupportRule} {occ : Word} {r c a : Nat} (hr : r ≤ 6) (hc : c < 8)
    (htarget : isTarget rule occ r c = true) (hra : r < a) (ha : a < 8)
    (hpiece : occ.getLsbD (cellIndex a c) = true)
    (hbetween : ∀ k, r < k → k < a → occ.getLsbD (cellIndex k c) = false) :
    sourceMask rule occ r c = cellBit a c := by
  rw [sourceMask, if_pos htarget]
  refine lowestSet_eq_shiftLeft_one ?_ fun j hj => ?_
  · rw [BitVec.getLsbD_and, hpiece, aboveMask_getLsbD hr hc (cellIndex_lt ha hc), Bool.true_and, Bool.and_eq_true,
      decide_eq_true_eq, decide_eq_true_eq]
    unfold cellIndex
    omega
  · have hj64 : j < 64 := hj.trans (cellIndex_lt ha hc)
    rw [BitVec.getLsbD_and, aboveMask_getLsbD hr hc hj64]
    by_cases hin : j % 8 = c ∧ r < j / 8
    · obtain ⟨rfl, hlt⟩ := hin
      have hclear := hbetween (j / 8) hlt (by unfold cellIndex at hj; omega)
      rw [cellIndex_div_mod] at hclear
      rw [hclear, Bool.false_and]
    · rw [← Bool.decide_and, decide_eq_false hin, Bool.and_false]

/-- A set of rows with a member over row `r` has a lowest member over row `r`. -/
theorem exists_lowest_above {P : Nat → Prop} {r a : Nat} (hra : r < a) (ha : P a) :
    ∃ b, r < b ∧ b ≤ a ∧ P b ∧ ∀ k, r < k → k < b → ¬ P k := by
  classical
  have hex : ∃ b, r < b ∧ P b := ⟨a, hra, ha⟩
  obtain ⟨hrb, hb⟩ := Nat.find_spec hex
  exact ⟨Nat.find hex, hrb, Nat.find_min' hex ⟨hra, ha⟩, hb, fun k hrk hk hPk => Nat.find_min hex hk ⟨hrk, hPk⟩⟩

/-- Something moves iff the cell is a target and has a piece above it (R75). -/
theorem sourceMask_ne_zero_iff {rule : SupportRule} {occ : Word} {r c : Nat} (hr : r ≤ 6) (hc : c < 8) :
    sourceMask rule occ r c ≠ 0 ↔
      isTarget rule occ r c = true ∧ ∃ a, r < a ∧ a < 8 ∧ occ.getLsbD (cellIndex a c) = true := by
  constructor
  · intro hmoves
    obtain ⟨a, hra, ha, -, hpiece, -⟩ := sourceMask_eq_cellBit hr hc hmoves
    refine ⟨?_, a + 1, by omega, by omega, hpiece⟩
    by_contra hnot
    exact hmoves (sourceMask_of_not_target (by simpa using hnot))
  · rintro ⟨htarget, a, hra, ha, hpiece⟩ hzero
    obtain ⟨b, hrb, hba, hb, hbetween⟩ :=
      exists_lowest_above (P := fun k => occ.getLsbD (cellIndex k c) = true) hra hpiece
    have hb8 : b < 8 := hba.trans_lt ha
    have hmask : sourceMask rule occ r c = cellBit b c :=
      sourceMask_eq_of_lowest hr hc htarget hrb hb8 hb fun k hrk hkb => by simpa using hbetween k hrk hkb
    have hbit : (cellBit b c).getLsbD (cellIndex b c) = true := by
      rw [cellBit_getLsbD, decide_eq_true (cellIndex_lt hb8 hc), decide_eq_true rfl, Bool.and_self]
    rw [← hmask, hzero] at hbit
    simp at hbit

/-! ### A move in terms of cells (R76) -/

/-- In one plane a move exchanges the bits of the piece's cell and of the clear cell below it (R76). -/
theorem dropBits_cellBit_same {plane : Word} {a c k : Nat} (ha : a < 7) (hc : c < 8) (hk : k < 8)
    (hempty : plane.getLsbD (cellIndex a c) = false) :
    (dropBits plane (cellBit (a + 1) c)).getLsbD (cellIndex k c) =
      plane.getLsbD (cellIndex (Equiv.swap a (a + 1) k) c) := by
  have hup : ∀ b, 8 + cellIndex b c = cellIndex (b + 1) c := fun b => by unfold cellIndex; omega
  have hsame : ∀ b b', cellIndex b c = cellIndex b' c ↔ b = b' := fun b b' => by
    rw [cellIndex_inj hc hc, and_iff_left rfl]
  rw [dropBits_getLsbD _ _ _ (cellIndex_lt hk hc), hup, cellBit_getLsbD, cellBit_getLsbD]
  simp only [hsame, Equiv.swap_apply_def]
  obtain rfl | hne := eq_or_ne k a
  · simp [hempty, cellIndex_lt (show k + 1 < 8 by omega) hc]
  · obtain rfl | hne' := eq_or_ne k (a + 1)
    · simp [hempty, cellIndex_lt hk hc]
    · simp [hne, hne']

/-- A move exchanges a cell and the empty one below it; no other cell changes (R76). -/
theorem Grid.drop_cell {g : Grid} {a c k c' : Nat} (ha : a < 7) (hc : c < 8) (hk : k < 8) (hc' : c' < 8)
    (hempty : g.cell a c = 0) :
    (g.drop (cellBit (a + 1) c)).cell k c' =
      if c' = c then g.cell (Equiv.swap a (a + 1) k) c else g.cell k c' := by
  rw [Grid.cell_eq_zero_iff, Grid.occ_getLsbD, Bool.or_eq_false_iff] at hempty
  obtain ⟨hlo, hhi⟩ := hempty
  split
  next hcol =>
    subst hcol
    rw [Grid.cell_eq, Grid.cell_eq, Grid.drop, dropBits_cellBit_same ha hc hk hlo, dropBits_cellBit_same ha hc hk hhi]
  next hcol =>
    rw [Grid.cell_eq_cell_iff]
    exact ⟨dropBits_cellBit_of_ne _ hc hk hc' hcol, dropBits_cellBit_of_ne _ hc hk hc' hcol⟩

/-- A cell holds a piece iff it is occupied (10_state.md R19). -/
theorem Grid.cell_ne_zero_iff (g : Grid) (r c : Nat) : g.cell r c ≠ 0 ↔ g.occ.getLsbD (cellIndex r c) = true := by
  rw [Ne, Grid.cell_eq_zero_iff, Bool.not_eq_false]

/-- One column of a row-step, where the lowest piece above a target stands at row `a + 1` (R75, R76). -/
theorem columnStep_of_lowest {rule : SupportRule} {g : Grid} {r c a : Nat} (m : Nat) (hr : r ≤ 6) (hc : c < 8)
    (htarget : isTarget rule g.occ r c = true) (hra : r ≤ a) (ha : a < 7) (hpiece : g.cell (a + 1) c ≠ 0)
    (hbetween : ∀ k, r < k → k ≤ a → g.cell k c = 0) :
    g.cell a c = 0 ∧ columnStep rule g.occ r (g, m) c = (g.drop (cellBit (a + 1) c), m + 1) := by
  have hmask : sourceMask rule g.occ r c = cellBit (a + 1) c :=
    sourceMask_eq_of_lowest hr hc htarget (by omega) (by omega) ((g.cell_ne_zero_iff _ _).1 hpiece)
      fun k hrk hka => (g.cell_eq_zero_iff _ _).1 (hbetween k hrk (by omega))
  have hmoves : sourceMask rule g.occ r c ≠ 0 :=
    (sourceMask_ne_zero_iff hr hc).2 ⟨htarget, a + 1, by omega, by omega, (g.cell_ne_zero_iff _ _).1 hpiece⟩
  refine ⟨?_, by rw [columnStep, if_neg hmoves, hmask]⟩
  obtain rfl | hlt := hra.eq_or_lt
  · exact (g.cell_eq_zero_iff _ _).2 (isTarget_empty htarget)
  · exact hbetween a hlt le_rfl

/-- Settles O26: a target and its source in terms of cells, and the move as an exchange of two cells. -/
theorem columnStepDropsTheLowestPieceAbove : Obligations.ColumnStepDropsTheLowestPieceAbove := by
  intro g m r c hr hc
  have hr6 : r ≤ 6 := Nat.le_of_lt_succ hr
  have htarget : isTarget .allBelow g.occ r c = true ↔ g.cell r c = 0 ∧ ∀ k, k < r → g.cell k c ≠ 0 := by
    simp only [isTarget_allBelow_iff (hr.trans (Nat.lt_succ_self 7)) hc, Grid.cell_eq_zero_iff, Grid.cell_ne_zero_iff]
  refine ⟨fun hnot => ?still, fun a ht hra ha hpiece hbetween => ?moves⟩
  case still =>
    refine if_pos (not_not.1 fun hmoves => hnot ?_)
    obtain ⟨ht, a, hra, ha, hpiece⟩ := (sourceMask_ne_zero_iff hr6 hc).1 hmoves
    exact ⟨htarget.1 ht, a, hra, ha, (g.cell_ne_zero_iff a c).2 hpiece⟩
  case moves =>
    obtain ⟨b, rfl⟩ : ∃ b, a = b + 1 := ⟨a - 1, by omega⟩
    obtain ⟨hempty, hstep⟩ := columnStep_of_lowest m hr6 hc (htarget.2 ht) (by omega) (by omega) hpiece
      fun k hrk hkb => hbetween k hrk (by omega)
    simp only [hstep, Nat.add_sub_cancel]
    refine ⟨trivial, hempty, fun r' c' hr' hc' => ?_⟩
    rw [Grid.drop_cell (by omega) hc hr' hc' hempty, Equiv.swap_apply_def]
    by_cases hcol : c' = c
    · subst hcol
      simp only [Prod.mk.injEq, and_true, if_true]
      split_ifs <;> simp [hempty]
    · simp [hcol]

end Sys2Proof.Machine
end

section
/-! PROOFS. One row-step of all eight columns (spec/41_gravity.md R77, R78): the steps of different columns touch no
common cell, so their order does not matter and one drop of all their sources is the same. The target rule is a
parameter. -/

namespace Sys2Proof.Machine

/-! ### What a column's step reads (R77) -/

/-- Whether a cell is a target depends on its column only (R74). -/
theorem isTarget_congr (rule : SupportRule) {x y : Word} {r c : Nat} (hr : r < 8) (hc : c < 8)
    (hsame : SameColumn x y c) : isTarget rule x r c = isTarget rule y r c := by
  have hcell := hsame r hr
  cases rule with
  | allBelow =>
    rw [Bool.eq_iff_iff, isTarget_allBelow_iff hr hc, isTarget_allBelow_iff hr hc, hcell]
    exact and_congr_right fun _ => forall₂_congr fun k hk => by rw [hsame k (hk.trans hr)]
  | directlyBelow => simp only [isTarget, hcell, hsame (r - 1) (by omega)]

/-- What moves in a column depends on that column only (R75, R77). -/
theorem sourceMask_congr (rule : SupportRule) {x y : Word} {r c : Nat} (hr : r ≤ 6) (hc : c < 8)
    (hsame : SameColumn x y c) : sourceMask rule x r c = sourceMask rule y r c := by
  have habove : x &&& aboveMask r c = y &&& aboveMask r c := by
    apply BitVec.eq_of_getLsbD_eq
    intro i hi
    rw [BitVec.getLsbD_and, BitVec.getLsbD_and, aboveMask_getLsbD hr hc hi]
    obtain rfl | hcol := eq_or_ne (i % 8) c
    · have hbit := hsame (i / 8) (by omega)
      rw [cellIndex_div_mod] at hbit
      rw [hbit]
    · simp [hcol]
  rw [sourceMask, sourceMask, isTarget_congr rule (by omega) hc hsame, habove]

/-- The live planes and the snapshot agree for each column when it is examined (R77). -/
theorem foldl_columnStep_live (rule : SupportRule) {occ : Word} {r : Nat} {cols : List Nat} (gm : Grid × Nat)
    (hr : r ≤ 6) (hnodup : cols.Nodup) (hlt : ∀ c ∈ cols, c < 8) (hlive : ∀ c ∈ cols, SameColumn gm.1.occ occ c) :
    cols.foldl (fun now c => columnStep rule now.1.occ r now c) gm = cols.foldl (columnStep rule occ r) gm := by
  induction cols generalizing gm with
  | nil => rfl
  | cons c cols ih =>
    rw [List.nodup_cons] at hnodup
    rw [List.forall_mem_cons] at hlt hlive
    obtain ⟨hfresh, hnodup⟩ := hnodup
    obtain ⟨hc, hlt⟩ := hlt
    obtain ⟨hliveNow, hlive⟩ := hlive
    have hfirst : columnStep rule gm.1.occ r gm c = columnStep rule occ r gm c := by
      rw [columnStep, columnStep, sourceMask_congr rule hr hc hliveNow]
    rw [List.foldl_cons, List.foldl_cons, hfirst]
    exact ih _ hnodup hlt fun c' hmem a ha =>
      (columnStep_sameColumn_of_ne rule occ gm hr hc (hlt c' hmem) (ne_of_mem_of_not_mem hmem hfresh) a ha).trans
        (hlive c' hmem a ha)

/-! ### Sources of different columns (R78) -/

/-- A word has no bit in column `c`. -/
def ClearIn (x : Word) (c : Nat) : Prop := ∀ i, i % 8 = c → x.getLsbD i = false

/-- A source lies in its own column (R75). -/
theorem sourceMask_clearIn (rule : SupportRule) (occ : Word) {r c c' : Nat} (hr : r ≤ 6) (hc : c < 8) (hne : c' ≠ c) :
    ClearIn (sourceMask rule occ r c) c' := by
  intro i hi
  by_cases hzero : sourceMask rule occ r c = 0
  · simp [hzero]
  · obtain ⟨a, -, -, hmask, -, -⟩ := sourceMask_eq_cellBit hr hc hzero
    have hother : i ≠ cellIndex (a + 1) c := by unfold cellIndex; omega
    simp [hmask, hother]

/-- Two words have bits in no common column. -/
def Apart (x y : Word) : Prop := ∀ c, ClearIn x c ∨ ClearIn y c

/-- Moves in different columns are one move of both (R78). -/
theorem dropBits_dropBits (plane : Word) {s t : Word} (h : Apart s t) :
    dropBits (dropBits plane s) t = dropBits plane (s ||| t) := by
  apply BitVec.eq_of_getLsbD_eq
  intro i hi
  have hcol : (8 + i) % 8 = i % 8 := Nat.add_mod_left 8 i
  rw [dropBits_getLsbD _ _ _ hi, dropBits_getLsbD _ _ _ hi, dropBits_getLsbD _ _ _ hi]
  obtain hs | ht := h (i % 8)
  · have hplane : (dropBits plane s).getLsbD (8 + i) = plane.getLsbD (8 + i) := by
      by_cases hup : 8 + i < 64
      · rw [dropBits_getLsbD _ _ _ hup, hs _ hcol, hs _ ((Nat.add_mod_left 8 _).trans hcol)]
        simp
      · rw [BitVec.getLsbD_of_ge _ _ (by omega), BitVec.getLsbD_of_ge _ _ (by omega)]
    simp [hplane, hs i rfl, hs _ hcol]
  · simp [ht i rfl, ht _ hcol]

/-- Moves in different columns are one move of both (R78). -/
theorem Grid.drop_drop (g : Grid) {s t : Word} (h : Apart s t) : (g.drop s).drop t = g.drop (s ||| t) := by
  simp only [Grid.drop, dropBits_dropBits _ h]

/-- The bits of words that have bits in no common column add up (00_scope.md R12). -/
theorem popcount_or {x y : Word} (h : Apart x y) : popcount (x ||| y) = popcount x + popcount y := by
  have hcount : ∀ l : List Nat, l.countP (fun i => (x ||| y).getLsbD i) =
      l.countP (fun i => x.getLsbD i) + l.countP (fun i => y.getLsbD i) := by
    intro l
    induction l with
    | nil => rfl
    | cons i l ih =>
      rw [List.countP_cons, List.countP_cons, List.countP_cons, ih, BitVec.getLsbD_or]
      obtain hx | hy := h (i % 8)
      · rw [hx i rfl, Bool.false_or]
        simp only [Bool.false_eq_true, if_false]
        omega
      · rw [hy i rfl, Bool.or_false]
        simp only [Bool.false_eq_true, if_false]
        omega
  exact hcount _

/-- A cell's bit is one bit (R12). -/
theorem popcount_cellBit {r c : Nat} (hr : r < 8) (hc : c < 8) : popcount (cellBit r c) = 1 := by
  have hi := cellIndex_lt hr hc
  have hcount : popcount (cellBit r c) = (List.range 64).count (cellIndex r c) := by
    rw [popcount, List.count]
    refine List.countP_congr fun i hmem => ?_
    rw [cellBit_getLsbD, decide_eq_true (List.mem_range.1 hmem)]
    simp
  rw [hcount, List.count_eq_one_of_mem List.nodup_range (List.mem_range.2 hi)]

/-! ### The row-step as one drop (R78) -/

/-- One column of a row-step drops its source and counts the source's bits (R76, R79). -/
theorem columnStep_eq_drop (rule : SupportRule) (occ : Word) {r c : Nat} (gm : Grid × Nat) (hr : r ≤ 6) (hc : c < 8) :
    columnStep rule occ r gm c =
      (gm.1.drop (sourceMask rule occ r c), gm.2 + popcount (sourceMask rule occ r c)) := by
  obtain ⟨hzero, hstill⟩ | ⟨hmoves, -, hdrop⟩ := columnStep_cases rule occ r gm c
  · rw [hstill, hzero, Grid.drop_zero]
    rfl
  · obtain ⟨a, -, ha, hmask, -, -⟩ := sourceMask_eq_cellBit hr hc hmoves
    rw [hdrop, hmask, popcount_cellBit (by omega) hc]

/-- Different columns drop all their sources at once, on top of sources `s` of other columns (R78). -/
theorem foldl_columnStep_eq_drop (rule : SupportRule) (occ : Word) {r : Nat} {cols : List Nat} (gm : Grid × Nat)
    (s : Word) (hr : r ≤ 6) (hnodup : cols.Nodup) (hlt : ∀ c ∈ cols, c < 8) (hclear : ∀ c ∈ cols, ClearIn s c) :
    cols.foldl (columnStep rule occ r) (gm.1.drop s, gm.2 + popcount s) =
      (gm.1.drop (cols.foldl (fun s c => s ||| sourceMask rule occ r c) s),
        gm.2 + popcount (cols.foldl (fun s c => s ||| sourceMask rule occ r c) s)) := by
  induction cols generalizing s with
  | nil => rfl
  | cons c cols ih =>
    rw [List.nodup_cons] at hnodup
    rw [List.forall_mem_cons] at hlt hclear
    obtain ⟨hfresh, hnodup⟩ := hnodup
    obtain ⟨hc, hlt⟩ := hlt
    obtain ⟨hclearNow, hclear⟩ := hclear
    have hapart : Apart s (sourceMask rule occ r c) := fun c' => by
      obtain rfl | hne := eq_or_ne c' c
      · exact .inl hclearNow
      · exact .inr (sourceMask_clearIn rule occ hr hc hne)
    have hlater : ∀ c' ∈ cols, ClearIn (s ||| sourceMask rule occ r c) c' := fun c' hmem i hi => by
      rw [BitVec.getLsbD_or, hclear c' hmem i hi,
        sourceMask_clearIn rule occ hr hc (ne_of_mem_of_not_mem hmem hfresh) i hi, Bool.or_self]
    rw [List.foldl_cons, List.foldl_cons, columnStep_eq_drop rule occ _ hr hc, Grid.drop_drop _ hapart, Nat.add_assoc,
      ← popcount_or hapart, ih _ hnodup hlt hlater]

/-- Different columns drop all their sources at once (R78). -/
theorem foldl_columnStep_eq (rule : SupportRule) (occ : Word) {r : Nat} {cols : List Nat} (gm : Grid × Nat)
    (hr : r ≤ 6) (hnodup : cols.Nodup) (hlt : ∀ c ∈ cols, c < 8) :
    cols.foldl (columnStep rule occ r) gm =
      (gm.1.drop (cols.foldl (fun s c => s ||| sourceMask rule occ r c) 0),
        gm.2 + popcount (cols.foldl (fun s c => s ||| sourceMask rule occ r c) 0)) := by
  have hfold := foldl_columnStep_eq_drop rule occ gm 0 hr hnodup hlt fun _ _ _ _ => BitVec.getLsbD_zero
  rwa [Grid.drop_zero, show popcount 0 = 0 from rfl] at hfold

/-- A row-step is the parallel form of R78, under either target rule. -/
theorem rowStep_eq_parallel (rule : SupportRule) (gm : Grid × Nat) {r : Nat} (hr : r ≤ 6) :
    rowStep rule gm r = ((rowStepParallel rule gm.1 r).1, gm.2 + (rowStepParallel rule gm.1 r).2) :=
  foldl_columnStep_eq rule gm.1.occ gm hr List.nodup_range fun _ => List.mem_range.1

/-- Settles O28. -/
theorem rowStepEqualsParallelForm : Obligations.RowStepEqualsParallelForm := fun g m _ hr =>
  rowStep_eq_parallel .allBelow (g, m) (Nat.le_of_lt_succ hr)

/-- Settles O27: the sources of the columns are joined by `|||`, in any order. -/
theorem columnOrderAndSnapshotDoNotMatter : Obligations.ColumnOrderAndSnapshotDoNotMatter := by
  intro gm r hr
  have hr6 : r ≤ 6 := Nat.le_of_lt_succ hr
  refine ⟨fun l hperm => ?_, foldl_columnStep_live .allBelow gm hr6 List.nodup_range (fun _ => List.mem_range.1)
    fun _ _ _ _ => rfl⟩
  have hsources := hperm.foldl_eq' (f := fun s c => s ||| sourceMask .allBelow gm.1.occ r c)
    (fun _ _ _ _ _ => by ac_rfl) 0
  rw [foldl_columnStep_eq _ _ _ hr6 (hperm.nodup_iff.2 List.nodup_range)
    fun c hmem => List.mem_range.1 (hperm.mem_iff.1 hmem), hsources]
  exact (rowStep_eq_parallel .allBelow gm hr6).symm

/-! ### One column of a row-step (R86) -/

/-- In column `c` the sources of a row-step are the source of column `c` (R78). -/
theorem rowSources_getLsbD (rule : SupportRule) (occ : Word) {r : Nat} (hr : r ≤ 6) (i : Nat) :
    (rowSources rule occ r).getLsbD i = (sourceMask rule occ r (i % 8)).getLsbD i := by
  have hfold : ∀ (cols : List Nat) (s : Word),
      (cols.foldl (fun s c => s ||| sourceMask rule occ r c) s).getLsbD i =
        (s.getLsbD i || cols.any fun c => (sourceMask rule occ r c).getLsbD i) := by
    intro cols
    induction cols with
    | nil => simp
    | cons c cols ih =>
      intro s
      rw [List.foldl_cons, ih, BitVec.getLsbD_or, List.any_cons, Bool.or_assoc]
  have hmem : i % 8 ∈ List.range 8 := List.mem_range.2 (Nat.mod_lt i (by decide))
  rw [rowSources, hfold, show (0 : Word).getLsbD i = false from BitVec.getLsbD_zero, Bool.false_or, Bool.eq_iff_iff,
    List.any_eq_true]
  refine ⟨fun ⟨c, hc, hbit⟩ => ?_, fun hbit => ⟨_, hmem, hbit⟩⟩
  by_contra hclear
  have hne : i % 8 ≠ c := fun heq => hclear (heq ▸ hbit)
  rw [sourceMask_clearIn rule occ hr (List.mem_range.1 hc) hne i rfl] at hbit
  exact Bool.false_ne_true hbit

/-- A drop in one plane reads the sources of that column only (R76). -/
theorem dropBits_congr (plane : Word) {s t : Word} {k c : Nat} (hk : k < 8) (hc : c < 8)
    (hsame : ∀ i, i % 8 = c → s.getLsbD i = t.getLsbD i) :
    (dropBits plane s).getLsbD (cellIndex k c) = (dropBits plane t).getLsbD (cellIndex k c) := by
  rw [dropBits_getLsbD _ _ _ (cellIndex_lt hk hc), dropBits_getLsbD _ _ _ (cellIndex_lt hk hc),
    hsame _ (by unfold cellIndex; omega), hsame _ (by unfold cellIndex; omega)]

/-- In column `c` a row-step does what the step of column `c` does (R77, R86). -/
theorem rowStep_cell (rule : SupportRule) (g : Grid) (m : Nat) {r k c : Nat} (hr : r ≤ 6) (hk : k < 8) (hc : c < 8) :
    (rowStep rule (g, m) r).1.cell k c = (columnStep rule g.occ r (g, m) c).1.cell k c := by
  have hsame : ∀ i, i % 8 = c → (rowSources rule g.occ r).getLsbD i = (sourceMask rule g.occ r c).getLsbD i :=
    fun i hi => hi ▸ rowSources_getLsbD rule g.occ hr i
  rw [rowStep_eq_parallel rule _ hr, columnStep_eq_drop rule _ _ hr hc, Grid.cell_eq_cell_iff]
  exact ⟨dropBits_congr _ hk hc hsame, dropBits_congr _ hk hc hsame⟩

end Sys2Proof.Machine
end

section
/-! PROOFS. The fixed points of a pass are the compacted boards (spec/41_gravity.md R84), and no move changes which
nonzero values a column holds, in which order (R83); so gravity is the stable compaction of every column (R72, R85), under
either target rule (93_implementation_defined.md U15). -/

namespace Sys2Proof.Machine

/-! ### A pass without a move (R84) -/

/-- Where each step changes nothing or counts a move, a run that counts no move has only steps that change nothing. -/
theorem foldl_steps_still {f : Grid × Nat → Nat → Grid × Nat} (hstep : ∀ gm k, f gm k = gm ∨ gm.2 < (f gm k).2)
    {l : List Nat} {gm : Grid × Nat} (hcount : (l.foldl f gm).2 = gm.2) : ∀ k ∈ l, f gm k = gm := by
  induction l with
  | nil => simp
  | cons k l ih =>
    have hfirst : f gm k = gm := by
      refine (hstep gm k).resolve_right fun hmoved => ?_
      rw [List.foldl_cons] at hcount
      obtain hsame | hmore := foldl_eq_or_count_lt hstep l (f gm k)
      · rw [hsame] at hcount
        omega
      · omega
    rw [List.foldl_cons, hfirst] at hcount
    exact List.forall_mem_cons.2 ⟨hfirst, ih hcount⟩

/-- In a pass without a move no column of any row-step has a source (R79). -/
theorem sourceMask_of_still {rule : SupportRule} {g : Grid} (hstill : (passUnder rule g).2 = 0) {r c : Nat}
    (hr : r < 7) (hc : c < 8) : sourceMask rule g.occ r c = 0 := by
  have hrows : ∀ gm r, rowStep rule gm r = gm ∨ gm.2 < (rowStep rule gm r).2 := fun gm r =>
    foldl_eq_or_count_lt (columnStep_eq_or_count_lt rule gm.1.occ r) _ gm
  have hrow : rowStep rule (g, 0) r = (g, 0) := foldl_steps_still hrows hstill r (List.mem_range.2 hr)
  have hcolumn : columnStep rule g.occ r (g, 0) c = (g, 0) :=
    foldl_steps_still (columnStep_eq_or_count_lt rule g.occ r) (congrArg Prod.snd hrow) c (List.mem_range.2 hc)
  obtain ⟨hzero, -⟩ | ⟨-, -, hdrop⟩ := columnStep_cases rule g.occ r (g, 0) c
  · exact hzero
  · rw [hcolumn] at hdrop
    exact absurd (congrArg Prod.snd hdrop) (Nat.zero_ne_add_one 0)

/-- A board on which a pass makes no move is compacted: the lowest empty cell of a column is a target, and would have a
piece above it (R84). -/
theorem settled_of_still {rule : SupportRule} {g : Grid} (hstill : (passUnder rule g).2 = 0) : g.Settled := by
  classical
  intro c hc r r' hrr' hr' hempty
  by_contra hpiece
  have hex : ∃ e, g.cell e c = 0 := ⟨r, hempty⟩
  have hle : Nat.find hex ≤ r := Nat.find_min' hex hempty
  have htarget : isTarget rule g.occ (Nat.find hex) c = true :=
    isTarget_of_supported rule (by omega) hc ((g.cell_eq_zero_iff _ _).1 (Nat.find_spec hex))
      fun k hk => (g.cell_ne_zero_iff _ _).1 (Nat.find_min hex hk)
  exact (sourceMask_ne_zero_iff (by omega) hc).2 ⟨htarget, r', by omega, hr', (g.cell_ne_zero_iff _ _).1 hpiece⟩
    (sourceMask_of_still hstill (by omega) hc)

/-- A pass on a compacted board changes nothing and makes no move: a move needs an empty cell under a piece (R84). -/
theorem passUnder_of_settled (rule : SupportRule) {g : Grid} (hsettled : g.Settled) : passUnder rule g = (g, 0) := by
  refine List.foldlRecOn (motive := (· = (g, 0))) _ _ rfl fun gm hgm r hr => ?_
  subst hgm
  refine List.foldlRecOn (motive := (· = (g, 0))) _ _ rfl fun gm hgm c hc => ?_
  subst hgm
  rw [List.mem_range] at hr hc
  obtain hstill | ⟨a, -, ha, hpiece, hempty, -⟩ :=
    columnStep_eq_or_drops rule g.occ (g, 0) (Nat.le_of_lt_succ hr) hc
  · exact hstill
  · exact absurd (hsettled c hc a (a + 1) (Nat.lt_succ_self a) (by omega) ((g.cell_eq_zero_iff _ _).2 hempty))
      ((g.cell_ne_zero_iff _ _).2 hpiece)

/-- A pass makes no move iff the board is compacted, under either target rule (R84). -/
theorem passUnder_still_iff_settled (rule : SupportRule) (g : Grid) : (passUnder rule g).2 = 0 ↔ g.Settled :=
  ⟨settled_of_still, fun hsettled => congrArg Prod.snd (passUnder_of_settled rule hsettled)⟩

/-- Settles O34. -/
theorem passMovesNothingIffSettled : Obligations.PassMovesNothingIffSettled := fun g =>
  ⟨passUnder_still_iff_settled Config.gravitySupportRule g, passUnder_grid_of_still⟩

/-! ### The nonzero values of a column (R83) -/

/-- An exchange of an entry that is filtered out with its successor is not seen in the filtered list. -/
theorem filter_map_swap {α : Type} (p : α → Bool) (f : Nat → α) {a n : Nat} (ha : a + 1 < n) (hempty : p (f a) = false) :
    ((List.range n).map fun k => f (Equiv.swap a (a + 1) k)).filter p = ((List.range n).map f).filter p := by
  obtain ⟨m, rfl⟩ : ∃ m, n = a + 1 + 1 + m := ⟨n - (a + 2), by omega⟩
  have hbelow : (List.range a).map (fun k => f (Equiv.swap a (a + 1) k)) = (List.range a).map f :=
    List.map_congr_left fun k hk => by
      have hlt := List.mem_range.1 hk
      rw [Equiv.swap_apply_of_ne_of_ne (by omega) (by omega)]
  have habove : (List.range m).map (fun k => f (Equiv.swap a (a + 1) (a + 1 + 1 + k))) =
      (List.range m).map fun k => f (a + 1 + 1 + k) :=
    List.map_congr_left fun k _ => by rw [Equiv.swap_apply_of_ne_of_ne (by omega) (by omega)]
  rw [List.range_add, List.range_succ, List.range_succ]
  simp only [List.map_append, List.map_map, Function.comp_def, List.map_cons, List.map_nil, List.filter_append, hbelow,
    habove, Equiv.swap_apply_left, Equiv.swap_apply_right]
  cases hp : p (f (a + 1)) <;> simp [hempty, hp]

/-- A move exchanges two neighbours of its column (R76). -/
theorem Grid.drop_column {g : Grid} {a c : Nat} (ha : a < 7) (hc : c < 8) (hempty : g.cell a c = 0) :
    (g.drop (cellBit (a + 1) c)).column c = (List.range 8).map fun k => g.cell (Equiv.swap a (a + 1) k) c :=
  List.map_congr_left fun k hk => by rw [Grid.drop_cell ha hc (List.mem_range.1 hk) hc hempty, if_pos rfl]

/-- Column `c` after a row-step is column `c` after its own step (R77, R86). -/
theorem rowStep_column (rule : SupportRule) (gm : Grid × Nat) {r c : Nat} (hr : r ≤ 6) (hc : c < 8) :
    (rowStep rule gm r).1.column c = (columnStep rule gm.1.occ r gm c).1.column c :=
  List.map_congr_left fun _ hk => rowStep_cell rule gm.1 gm.2 hr (List.mem_range.1 hk) hc

/-- A row-step keeps the nonzero values of each column and their order (R83). -/
theorem rowStep_filter_column (rule : SupportRule) (gm : Grid × Nat) {r c : Nat} (hr : r ≤ 6) (hc : c < 8) :
    ((rowStep rule gm r).1.column c).filter (· != 0) = (gm.1.column c).filter (· != 0) := by
  rw [rowStep_column rule gm hr hc]
  obtain hstill | ⟨a, -, ha, -, hempty, hdrop⟩ := columnStep_eq_or_drops rule gm.1.occ gm hr hc
  · rw [hstill]
  · rw [← Grid.cell_eq_zero_iff] at hempty
    rw [hdrop, Grid.drop_column ha hc hempty, Grid.column]
    exact filter_map_swap (· != 0) (gm.1.cell · c) (by omega) (by simp [hempty])

/-- A pass keeps the nonzero values of each column and their order (R83). -/
theorem passUnder_filter_column (rule : SupportRule) (g : Grid) {c : Nat} (hc : c < 8) :
    ((passUnder rule g).1.column c).filter (· != 0) = (g.column c).filter (· != 0) := by
  refine List.foldlRecOn (motive := fun gm : Grid × Nat => (gm.1.column c).filter (· != 0) = (g.column c).filter (· != 0))
    _ _ rfl fun gm hgm r hr => ?_
  rw [rowStep_filter_column rule gm (Nat.le_of_lt_succ (List.mem_range.1 hr)) hc, hgm]

/-- Passes keep the nonzero values of each column and their order (R83). -/
theorem passesUnder_filter_column (rule : SupportRule) (k : Nat) (g : Grid) {c : Nat} (hc : c < 8) :
    ((passesUnder rule k g).column c).filter (· != 0) = (g.column c).filter (· != 0) := by
  induction k generalizing g with
  | zero => rfl
  | succ k ih => rw [passesUnder_succ, ih, passUnder_filter_column rule g hc]

/-! ### Stable compaction (R72, R85) -/

/-- A compaction is fixed by the nonzero values and the height of the column (R72). -/
theorem compactColumn_eq (vs : List (BitVec 2)) :
    compactColumn vs = vs.filter (· != 0) ++ List.replicate (vs.length - (vs.filter (· != 0)).length) 0 := by
  have hlength := vs.length_eq_length_filter_add (· == 0)
  rw [compactColumn, show (vs.filter (· == 0)).length = vs.length - (vs.filter (· != 0)).length from
    Nat.eq_sub_of_add_eq hlength.symm]

@[simp] theorem Grid.column_length (g : Grid) (c : Nat) : (g.column c).length = 8 := by
  rw [Grid.column, List.length_map, List.length_range]

/-- A column without an empty entry below an occupied one (R84). -/
def SettledColumn (vs : List (BitVec 2)) : Prop := vs.Pairwise fun lower upper => lower = 0 → upper = 0

/-- A board is compacted iff each of its columns is (R84). -/
theorem Grid.settled_iff (g : Grid) : g.Settled ↔ ∀ c, c < 8 → SettledColumn (g.column c) := by
  refine forall₂_congr fun c _ => ?_
  rw [SettledColumn, Grid.column, List.pairwise_map, List.pairwise_iff_getElem]
  simp only [List.length_range, List.getElem_range]
  exact ⟨fun h r r' _ hr' hrr' => h r r' hrr' hr', fun h r r' hrr' hr' => h r r' (hrr'.trans hr') hr' hrr'⟩

/-- A compacted column is its own compaction (R72). -/
theorem compactColumn_of_settled {vs : List (BitVec 2)} (h : SettledColumn vs) : compactColumn vs = vs := by
  induction vs with
  | nil => rfl
  | cons v vs ih =>
    obtain ⟨habove, htail⟩ := List.pairwise_cons.1 h
    obtain rfl | hpiece := eq_or_ne v 0
    · have hzeros : ∀ w ∈ 0 :: vs, w = 0 := List.forall_mem_cons.2 ⟨rfl, fun w hw => habove w hw rfl⟩
      have hnone : (0 :: vs).filter (· != 0) = [] := List.filter_eq_nil_iff.2 fun w hw => by simp [hzeros w hw]
      rw [compactColumn_eq, hnone, List.nil_append, List.length_nil, Nat.sub_zero]
      exact (List.eq_replicate_iff.2 ⟨rfl, hzeros⟩).symm
    · have hcons : compactColumn (v :: vs) = v :: compactColumn vs := by
        rw [compactColumn, List.filter_cons_of_pos (by simpa using hpiece),
          List.filter_cons_of_neg (by simpa using hpiece), List.cons_append, compactColumn]
      rw [hcons, ih htail]

/-- Gravity is the stable compaction of every column, under either target rule (R72, R85). -/
theorem gravityUnder_column (rule : SupportRule) (g : Grid) {c : Nat} (hc : c < 8) :
    (gravityUnder rule g).1.column c = compactColumn (g.column c) := by
  have hsettled : SettledColumn ((gravityUnder rule g).1.column c) :=
    (Grid.settled_iff _).1 (settled_of_still (passUnder_gravityUnder_still rule g)) c hc
  obtain ⟨p, -, -, hgravity⟩ := gravityUnder_eq_passesUnder rule g
  rw [← compactColumn_of_settled hsettled, compactColumn_eq, compactColumn_eq (g.column c), hgravity,
    passesUnder_filter_column rule p g hc, Grid.column_length, Grid.column_length]

/-- Settles O35. -/
theorem gravCompactsEveryColumn : Obligations.GravCompactsEveryColumn := fun s =>
  ⟨_, exec_grav s, fun _ hc => gravityUnder_column Config.gravitySupportRule s.grid hc⟩

/-- The columns determine the planes (10_state.md R16). -/
theorem Grid.eq_of_columns_eq {g h : Grid} (hcolumns : ∀ c, c < 8 → g.column c = h.column c) : g = h :=
  Grid.eq_of_cells_eq fun r c hr hc => List.map_eq_map_iff.1 (hcolumns c hc) r (List.mem_range.2 hr)

/-- Settles O36: both rules end in the compaction of every column. -/
theorem finalPlanesDoNotDependOnTargetRule : Obligations.FinalPlanesDoNotDependOnTargetRule := fun g =>
  ⟨Grid.eq_of_columns_eq fun _ hc => by rw [gravityUnder_column _ g hc, gravityUnder_column _ g hc], rfl⟩

end Sys2Proof.Machine
end

section
/-! PROOFS. A pass column by column (spec/41_gravity.md R79, R86, R88): under ALL_BELOW the seven row-steps of a pass act on
a column as one sweep from the bottom up, written here by recursion on the column. -/

namespace Sys2Proof.Machine

section Column

variable {α : Type} (p : α → Bool)

/-! ### A column as a list, bottom-up

`p` says which entries are pieces: the cells of a column are taken as values or as occupancy bits. -/

/-- The entries from an empty one `e` upward, after the lowest piece over `e` went one row down (R75, R76). -/
def lowerLowest (e : α) : List α → List α
  | [] => [e]
  | v :: vs => if p v then v :: e :: vs else e :: lowerLowest v vs

/-- Row-step `r` on a column under ALL_BELOW (R74 to R76): over `r` pieces an empty entry is a target. -/
def columnRowStep : Nat → List α → List α
  | _, [] => []
  | 0, v :: vs => if p v then v :: vs else lowerLowest p v vs
  | r + 1, v :: vs => if p v then v :: columnRowStep r vs else v :: vs

/-- The entries from an empty one `e` upward after a pass: a piece directly over `e` moves into it and leaves the next
target behind (R79); where the entry over `e` is empty too, the lowest piece falls one row and is the last to move
(R88). -/
def fillHole (e : α) : List α → List α
  | [] => [e]
  | v :: vs => if p v then v :: fillHole e vs else e :: lowerLowest p v vs

/-- A pass on a column under ALL_BELOW: the pieces at the bottom stay, and the pieces over the first empty entry fall. -/
def columnPass : List α → List α
  | [] => []
  | v :: vs => if p v then v :: columnPass vs else fillHole p v vs

/-! ### The row-step of a column, by the piece that moves -/

/-- A column given by its rows: the bottom entry and the rows over it. -/
theorem map_range_succ {β : Type} (f : Nat → β) (n : Nat) :
    (List.range (n + 1)).map f = f 0 :: (List.range n).map fun k => f (k + 1) := by
  rw [List.range_succ_eq_map, List.map_cons, List.map_map]
  rfl

/-- An exchange of two rows, seen from one row higher. -/
theorem swap_succ_succ (a b k : Nat) : Equiv.swap (a + 1) (b + 1) (k + 1) = Equiv.swap a b k + 1 := by
  simp only [Equiv.swap_apply_def, Nat.add_right_cancel_iff]
  split_ifs <;> rfl

/-- An exchange over the bottom entry leaves the bottom entry as it is. -/
theorem map_range_swap_succ {β : Type} (f : Nat → β) (a n : Nat) :
    (List.range (n + 1)).map (fun k => f (Equiv.swap (a + 1) (a + 1 + 1) k)) =
      f 0 :: (List.range n).map fun k => f (Equiv.swap a (a + 1) k + 1) := by
  rw [map_range_succ, Equiv.swap_apply_of_ne_of_ne (by omega) (by omega)]
  simp only [swap_succ_succ]

/-- An exchange of the two bottom entries. -/
theorem map_range_swap_zero {β : Type} (f : Nat → β) (n : Nat) :
    (List.range (n + 1 + 1)).map (fun k => f (Equiv.swap 0 (0 + 1) k)) =
      f 1 :: f 0 :: (List.range n).map fun k => f (k + 1 + 1) := by
  have habove : ∀ k, Equiv.swap 0 1 (k + 1 + 1) = k + 1 + 1 := fun k =>
    Equiv.swap_apply_of_ne_of_ne (by omega) (by omega)
  rw [map_range_succ, map_range_succ]
  simp only [Nat.zero_add, habove, Equiv.swap_apply_left, Equiv.swap_apply_right]

variable {p}

/-- Nothing falls where no piece is above (R75). -/
theorem lowerLowest_of_none {e : α} {vs : List α} (hnone : ∀ v ∈ vs, p v = false) : lowerLowest p e vs = e :: vs := by
  induction vs generalizing e with
  | nil => rfl
  | cons v vs ih =>
    obtain ⟨hv, hvs⟩ := List.forall_mem_cons.1 hnone
    rw [lowerLowest, hv, ih hvs]
    rfl

/-- The lowest piece, at entry `a + 1`, changes places with the empty entry below it (R75, R76). -/
theorem lowerLowest_eq_swap (f : Nat → α) {a n : Nat} (ha : a < n) (hpiece : p (f (a + 1)) = true)
    (hbetween : ∀ k, 0 < k → k ≤ a → p (f k) = false) :
    lowerLowest p (f 0) ((List.range n).map fun k => f (k + 1)) =
      (List.range (n + 1)).map fun k => f (Equiv.swap a (a + 1) k) := by
  induction a generalizing f n with
  | zero =>
    obtain ⟨m, rfl⟩ : ∃ m, n = m + 1 := ⟨n - 1, by omega⟩
    rw [map_range_swap_zero, map_range_succ, lowerLowest, if_pos hpiece]
  | succ a ih =>
    obtain ⟨m, rfl⟩ : ∃ m, n = m + 1 := ⟨n - 1, by omega⟩
    rw [map_range_swap_succ, map_range_succ, lowerLowest, hbetween 1 (by omega) (by omega)]
    exact congrArg (f 0 :: ·)
      (ih (fun k => f (k + 1)) (by omega) hpiece fun k hk hka => hbetween (k + 1) (by omega) (by omega))

/-- Where the entry is no target or has no piece above it, a row-step changes nothing (R74, R75). -/
theorem columnRowStep_of_still (f : Nat → α) {r n : Nat}
    (hstill : ¬ ((p (f r) = false ∧ ∀ k, k < r → p (f k) = true) ∧ ∃ a, r < a ∧ a < n ∧ p (f a) = true)) :
    columnRowStep p r ((List.range n).map f) = (List.range n).map f := by
  induction r generalizing f n with
  | zero =>
    obtain - | n := n
    · rfl
    rw [map_range_succ, columnRowStep]
    split_ifs with hbottom
    · rfl
    refine lowerLowest_of_none fun v hv => ?_
    obtain ⟨k, hk, rfl⟩ := List.mem_map.1 hv
    by_contra hpiece
    exact hstill ⟨⟨by simpa using hbottom, fun k hk => absurd hk (Nat.not_lt_zero k)⟩, k + 1, k.succ_pos,
      Nat.succ_lt_succ (List.mem_range.1 hk), by simpa using hpiece⟩
  | succ r ih =>
    obtain - | n := n
    · rfl
    rw [map_range_succ, columnRowStep]
    split_ifs with hbottom
    · refine congrArg (f 0 :: ·) (ih (fun k => f (k + 1)) fun ⟨⟨hempty, hbelow⟩, a, hra, ha, hpiece⟩ => hstill ?_)
      refine ⟨⟨hempty, fun k hk => ?_⟩, a + 1, Nat.succ_lt_succ hra, Nat.succ_lt_succ ha, hpiece⟩
      obtain - | k := k
      · exact hbottom
      · exact hbelow k (Nat.lt_of_succ_lt_succ hk)
    · rfl

/-- Over a target the lowest piece, at entry `a + 1`, changes places with the empty entry below it (R74 to R76). -/
theorem columnRowStep_eq_swap (f : Nat → α) {r a n : Nat} (hempty : p (f r) = false)
    (hbelow : ∀ k, k < r → p (f k) = true) (hra : r ≤ a) (ha : a + 1 < n) (hpiece : p (f (a + 1)) = true)
    (hbetween : ∀ k, r < k → k ≤ a → p (f k) = false) :
    columnRowStep p r ((List.range n).map f) = (List.range n).map fun k => f (Equiv.swap a (a + 1) k) := by
  obtain ⟨n, rfl⟩ : ∃ m, n = m + 1 := ⟨n - 1, by omega⟩
  induction r generalizing f a n with
  | zero =>
    rw [map_range_succ f, columnRowStep, if_neg (by simp [hempty])]
    exact lowerLowest_eq_swap f (by omega) hpiece hbetween
  | succ r ih =>
    obtain ⟨a, rfl⟩ : ∃ b, a = b + 1 := ⟨a - 1, by omega⟩
    obtain ⟨n, rfl⟩ : ∃ m, n = m + 1 := ⟨n - 1, by omega⟩
    rw [map_range_swap_succ, map_range_succ f, columnRowStep, if_pos (hbelow 0 r.succ_pos)]
    exact congrArg (f 0 :: ·) (ih (fun k => f (k + 1)) hempty (fun k hk => hbelow (k + 1) (Nat.succ_lt_succ hk))
      (by omega) hpiece (fun k hrk hka => hbetween (k + 1) (by omega) (by omega)) n (by omega))

/-! ### The row-steps of a pass -/

/-- Over a piece the row-steps 1, 2, … are the row-steps 0, 1, … of the column above it. -/
theorem foldl_columnRowStep_cons_piece {v : α} (hv : p v = true) (rows : List Nat) (vs : List α) :
    (rows.map Nat.succ).foldl (fun ws r => columnRowStep p r ws) (v :: vs) =
      v :: rows.foldl (fun ws r => columnRowStep p r ws) vs := by
  induction rows generalizing vs with
  | nil => rfl
  | cons r rows ih => rw [List.map_cons, List.foldl_cons, List.foldl_cons, columnRowStep, if_pos hv, ih]

/-- Over an empty entry the row-steps 1, 2, … change nothing (R74). -/
theorem foldl_columnRowStep_cons_empty {v : α} (hv : p v = false) (rows : List Nat) (vs : List α) :
    (rows.map Nat.succ).foldl (fun ws r => columnRowStep p r ws) (v :: vs) = v :: vs := by
  induction rows with
  | nil => rfl
  | cons r rows ih => rw [List.map_cons, List.foldl_cons, columnRowStep, if_neg (by simp [hv]), ih]

/-- The row-steps of all rows but the top one, upward, are the sweep `columnPass` (R79). -/
theorem foldl_columnRowStep_eq_columnPass {n : Nat} {vs : List α} (hlength : vs.length = n + 1) :
    (List.range n).foldl (fun ws r => columnRowStep p r ws) vs = columnPass p vs := by
  induction n generalizing vs with
  | zero =>
    obtain ⟨v, rfl⟩ := List.length_eq_one_iff.1 hlength
    simp [columnPass, fillHole]
  | succ n ih =>
    obtain ⟨v, w, us, rfl, hus⟩ : ∃ v w us, vs = v :: w :: us ∧ us.length = n := by
      obtain - | ⟨v, - | ⟨w, us⟩⟩ := vs
      · simp at hlength
      · simp at hlength
      · exact ⟨v, w, us, rfl, by simpa using hlength⟩
    rw [List.range_succ_eq_map, List.foldl_cons, columnRowStep, columnPass]
    split_ifs with hv
    · rw [foldl_columnRowStep_cons_piece hv, ih (by simp [hus])]
    · rw [lowerLowest, fillHole]
      split_ifs with hw
      · rw [foldl_columnRowStep_cons_piece hw, ih (by simp [hus]), columnPass, if_neg hv]
      · rw [foldl_columnRowStep_cons_empty (by simpa using hv)]

end Column

/-! ### A pass on the board, column by column (R86) -/

/-- Row-step `r` of a pass on column `c` (R77, R86). -/
theorem rowStep_column_eq (gm : Grid × Nat) {r c : Nat} (hr : r ≤ 6) (hc : c < 8) :
    (rowStep .allBelow gm r).1.column c = columnRowStep (· != 0) r (gm.1.column c) := by
  obtain ⟨g, m⟩ := gm
  have hclear : ∀ k, g.occ.getLsbD (cellIndex k c) = false ↔ (g.cell k c != 0) = false := fun k => by
    rw [← Grid.cell_eq_zero_iff, bne_eq_false_iff_eq]
  have hset : ∀ k, g.occ.getLsbD (cellIndex k c) = true ↔ (g.cell k c != 0) = true := fun k => by
    rw [← Grid.cell_ne_zero_iff, bne_iff_ne]
  have hmoves := sourceMask_ne_zero_iff (rule := .allBelow) (occ := g.occ) hr hc
  simp only [isTarget_allBelow_iff (show r < 8 by omega) hc, hclear, hset] at hmoves
  rw [rowStep_column _ _ hr hc]
  by_cases hmove : sourceMask .allBelow g.occ r c = 0
  · rw [columnStep, if_pos hmove]
    exact (columnRowStep_of_still (g.cell · c) fun h => hmoves.2 h hmove).symm
  · obtain ⟨⟨hempty, hbelow⟩, b, hrb, hb, hpiece⟩ := hmoves.1 hmove
    obtain ⟨a, hra, hab, hlowest, hbetween⟩ := exists_lowest_above (P := fun k => (g.cell k c != 0) = true) hrb hpiece
    obtain ⟨a, rfl⟩ : ∃ b, a = b + 1 := ⟨a - 1, by omega⟩
    have hgap : ∀ k, r < k → k ≤ a → (g.cell k c != 0) = false := fun k hrk hka =>
      Bool.eq_false_iff.2 (hbetween k hrk (Nat.lt_succ_of_le hka))
    have htarget : isTarget .allBelow g.occ r c = true :=
      (isTarget_allBelow_iff (by omega) hc).2 ⟨(hclear r).2 hempty, fun k hk => (hset k).2 (hbelow k hk)⟩
    obtain ⟨hfree, hstep⟩ := columnStep_of_lowest m hr hc htarget (by omega) (by omega) (bne_iff_ne.1 hlowest)
      fun k hrk hka => bne_eq_false_iff_eq.1 (hgap k hrk hka)
    rw [hstep, Grid.drop_column (by omega) hc hfree]
    exact (columnRowStep_eq_swap (g.cell · c) hempty hbelow (by omega) (by omega) hlowest hgap).symm

/-- A pass on the board is a pass on each column (R86). -/
theorem gpass_column (g : Grid) {c : Nat} (hc : c < 8) :
    (gpass g).1.column c = columnPass (· != 0) (g.column c) := by
  rw [← foldl_columnRowStep_eq_columnPass (g.column_length c)]
  refine List.foldl_rel (r := fun (gm : Grid × Nat) vs => gm.1.column c = vs) rfl fun r hr gm vs hgm => ?_
  rw [← hgm]
  exact rowStep_column_eq gm (Nat.le_of_lt_succ (List.mem_range.1 hr)) hc

/-! ### The pieces of a column in a pass (R83, R88) -/

/-- The pieces of a column whose bottom entry is at row `n`. -/
def piecesFrom : Nat → List (BitVec 2) → List (Nat × BitVec 2)
  | _, [] => []
  | n, v :: vs => if v = 0 then piecesFrom (n + 1) vs else (n, v) :: piecesFrom (n + 1) vs

@[simp] theorem piecesFrom_cons_zero (n : Nat) (vs : List (BitVec 2)) :
    piecesFrom n (0 :: vs) = piecesFrom (n + 1) vs := if_pos rfl

@[simp] theorem piecesFrom_cons_of_ne {v : BitVec 2} (hv : v ≠ 0) (n : Nat) (vs : List (BitVec 2)) :
    piecesFrom n (v :: vs) = (n, v) :: piecesFrom (n + 1) vs := if_neg hv

/-- The pieces as the board's definition finds them: rows with their values, the empty ones left out. -/
theorem filter_map_range_eq_piecesFrom (f : Nat → BitVec 2) (n m : Nat) :
    ((List.range m).map fun r => (n + r, f r)).filter (fun q => q.2 != 0) = piecesFrom n ((List.range m).map f) := by
  induction m generalizing n f with
  | zero => rfl
  | succ m ih =>
    have htail := ih (fun r => f (r + 1)) (n + 1)
    simp only [Nat.add_assoc, Nat.add_comm 1] at htail
    rw [map_range_succ, map_range_succ f]
    obtain hv | hv := eq_or_ne (f 0) 0
    · rw [List.filter_cons_of_neg (by simp [hv]), hv, piecesFrom_cons_zero, htail]
    · rw [List.filter_cons_of_pos (by simpa using hv), piecesFrom_cons_of_ne hv, htail, Nat.add_zero]

/-- The pieces of a column of the board. -/
theorem Grid.pieces_eq (g : Grid) (c : Nat) : g.pieces c = piecesFrom 0 (g.column c) := by
  rw [Grid.pieces, Grid.column, ← filter_map_range_eq_piecesFrom]
  simp only [Nat.zero_add]

/-- A piece before and after a pass: its value is the same, and its row is the same or one lower (R83, R88). -/
def FallsAtMostOne (before after : Nat × BitVec 2) : Prop :=
  after.2 = before.2 ∧ (after.1 = before.1 ∨ after.1 + 1 = before.1)

theorem forall₂_fallsAtMostOne_refl (ps : List (Nat × BitVec 2)) : List.Forall₂ FallsAtMostOne ps ps :=
  List.forall₂_same.2 fun _ _ => ⟨rfl, .inl rfl⟩

/-- Over an empty entry the lowest piece falls one row, and the others stay (R75, R76). -/
theorem lowerLowest_pieces (n : Nat) (vs : List (BitVec 2)) :
    List.Forall₂ FallsAtMostOne (piecesFrom (n + 1) vs) (piecesFrom n (lowerLowest (· != 0) 0 vs)) := by
  induction vs generalizing n with
  | nil => exact .nil
  | cons v vs ih =>
    obtain rfl | hv := eq_or_ne v 0
    · rw [lowerLowest, if_neg (by decide), piecesFrom_cons_zero, piecesFrom_cons_zero]
      exact ih (n + 1)
    · rw [lowerLowest, if_pos (bne_iff_ne.2 hv), piecesFrom_cons_of_ne hv, piecesFrom_cons_of_ne hv,
        piecesFrom_cons_zero]
      exact .cons ⟨rfl, .inr rfl⟩ (forall₂_fallsAtMostOne_refl _)

/-- Over the first empty entry pieces fall one row or stay (R88). -/
theorem fillHole_pieces (n : Nat) (vs : List (BitVec 2)) :
    List.Forall₂ FallsAtMostOne (piecesFrom (n + 1) vs) (piecesFrom n (fillHole (· != 0) 0 vs)) := by
  induction vs generalizing n with
  | nil => exact .nil
  | cons v vs ih =>
    obtain rfl | hv := eq_or_ne v 0
    · rw [fillHole, if_neg (by decide), piecesFrom_cons_zero, piecesFrom_cons_zero]
      exact lowerLowest_pieces (n + 1) vs
    · rw [fillHole, if_pos (bne_iff_ne.2 hv), piecesFrom_cons_of_ne hv, piecesFrom_cons_of_ne hv]
      exact .cons ⟨rfl, .inr rfl⟩ (ih (n + 1))

/-- In a pass the pieces of a column keep their order and values, and each falls one row or stays (R83, R88). -/
theorem columnPass_pieces (n : Nat) (vs : List (BitVec 2)) :
    List.Forall₂ FallsAtMostOne (piecesFrom n vs) (piecesFrom n (columnPass (· != 0) vs)) := by
  induction vs generalizing n with
  | nil => exact .nil
  | cons v vs ih =>
    obtain rfl | hv := eq_or_ne v 0
    · rw [columnPass, if_neg (by decide), piecesFrom_cons_zero]
      exact fillHole_pieces n vs
    · rw [columnPass, if_pos (bne_iff_ne.2 hv), piecesFrom_cons_of_ne hv, piecesFrom_cons_of_ne hv]
      exact .cons ⟨rfl, .inl rfl⟩ (ih (n + 1))

/-- Settles O33. -/
theorem passKeepsPiecesInOrder : Obligations.PassKeepsPiecesInOrder := fun g c hc => by
  rw [Grid.pieces_eq, Grid.pieces_eq, gpass_column g hc]
  exact columnPass_pieces 0 (g.column c)

/-! ### The board of one column (R86) -/

/-- The board of column `c` holds the cells of column `c` (R86). -/
theorem Grid.onlyColumn_cell (g : Grid) {c r c' : Nat} (hc : c < 8) (hr : r < 8) (hc' : c' < 8) :
    (g.onlyColumn c).cell r c' = if c' = c then g.cell r c' else 0 := by
  have hi := cellIndex_lt hr hc'
  have hmask : (colMask c).getLsbD (cellIndex r c') = decide (c' = c) := by
    rw [colMask_getLsbD hc hi, show cellIndex r c' % 8 = c' by unfold cellIndex; omega]
  split_ifs with hcol
  · rw [decide_eq_true hcol] at hmask
    rw [Grid.cell_eq_cell_iff, Grid.onlyColumn]
    simp [hmask]
  · rw [decide_eq_false hcol] at hmask
    rw [Grid.cell_eq_zero_iff, Grid.occ_getLsbD, Grid.onlyColumn]
    simp [hmask]

/-- The board of column `c` is empty beside column `c` (R86). -/
theorem Grid.onlyColumn_column (g : Grid) {c c' : Nat} (hc : c < 8) (hc' : c' < 8) :
    (g.onlyColumn c).column c' = if c' = c then g.column c' else List.replicate 8 0 := by
  have hcell : (g.onlyColumn c).column c' = (List.range 8).map fun r => if c' = c then g.cell r c' else 0 :=
    List.map_congr_left fun r hr => g.onlyColumn_cell hc (List.mem_range.1 hr) hc'
  rw [hcell]
  split_ifs <;> rfl

/-- A pass on the board of one column is that column of the pass (R86). -/
theorem gpass_onlyColumn (g : Grid) {c : Nat} (hc : c < 8) : (gpass g).1.onlyColumn c = (gpass (g.onlyColumn c)).1 := by
  refine Grid.eq_of_columns_eq fun c' hc' => ?_
  rw [gpass_column _ hc', Grid.onlyColumn_column _ hc hc', Grid.onlyColumn_column _ hc hc', gpass_column _ hc']
  split_ifs <;> rfl

/-- Passes on the board of one column are that column of the passes (R86). -/
theorem passes_onlyColumn (k : Nat) (g : Grid) {c : Nat} (hc : c < 8) :
    (passes k g).onlyColumn c = passes k (g.onlyColumn c) := by
  induction k generalizing g with
  | zero => rfl
  | succ k ih =>
    have hpass := ih (gpass g).1
    rwa [gpass_onlyColumn g hc] at hpass

/-! ### The number of moving passes (R82, R86) -/

/-- Passes on a compacted board change nothing (R84). -/
theorem passes_of_settled {g : Grid} (hsettled : g.Settled) (k : Nat) : passes k g = g := by
  induction k with
  | zero => rfl
  | succ k ih =>
    rw [passes, passesUnder_succ, passUnder_of_settled _ hsettled]
    exact ih

/-- Passes after passes. -/
theorem passes_add (j k : Nat) (g : Grid) : passes (k + j) g = passes j (passes k g) := by
  induction k generalizing g with
  | zero => rw [Nat.zero_add]; rfl
  | succ k ih =>
    rw [Nat.succ_add]
    exact ih (gpass g).1

/-- GRAV counts at most `k` moving passes iff `k` passes compact the board (R82, R84). -/
theorem gravity_count_le_iff (g : Grid) (k : Nat) : (gravity g).2 ≤ k ↔ (passes k g).Settled := by
  obtain ⟨p, hmoving, hlast, hgravity⟩ := gravityUnder_eq_passesUnder Config.gravitySupportRule g
  rw [gravity, hgravity]
  constructor
  · intro hle
    obtain ⟨j, rfl⟩ := Nat.exists_eq_add_of_le hle
    have hsettled : (passes p g).Settled := settled_of_still hlast
    rwa [passes_add, passes_of_settled hsettled]
  · intro hsettled
    by_contra hlt
    exact hmoving k (not_le.1 hlt) ((passUnder_still_iff_settled _ _).2 hsettled)

/-- The board of one column is compacted iff the column is (R84, R86). -/
theorem Grid.onlyColumn_settled_iff (g : Grid) {c : Nat} (hc : c < 8) :
    (g.onlyColumn c).Settled ↔ SettledColumn (g.column c) := by
  rw [Grid.settled_iff]
  constructor
  · intro h
    have hcolumn := h c hc
    rwa [Grid.onlyColumn_column g hc hc, if_pos rfl] at hcolumn
  · intro h c' hc'
    rw [Grid.onlyColumn_column g hc hc']
    split_ifs with hcol
    · exact hcol ▸ h
    · exact List.pairwise_replicate.2 (.inr fun _ => rfl)

/-- GRAV on the board of one column counts at most `k` moving passes iff `k` passes compact that column (R86). -/
theorem gravity_onlyColumn_count_le_iff (g : Grid) {c : Nat} (hc : c < 8) (k : Nat) :
    (gravity (g.onlyColumn c)).2 ≤ k ↔ SettledColumn ((passes k g).column c) := by
  rw [gravity_count_le_iff, ← passes_onlyColumn k g hc, Grid.onlyColumn_settled_iff _ hc]

/-- Settles O37: `k` passes compact a board iff they compact each of its columns; a column that one pass less does not
compact has the greatest count. -/
theorem columnsAreIndependent : Obligations.ColumnsAreIndependent := by
  intro g
  have hle : ∀ c, c < 8 → (gravity (g.onlyColumn c)).2 ≤ (gravity g).2 := fun c hc =>
    (gravity_onlyColumn_count_le_iff g hc _).2
      ((Grid.settled_iff _).1 ((gravity_count_le_iff g _).1 le_rfl) c hc)
  refine ⟨fun c => gpass_onlyColumn g, hle, ?_⟩
  by_cases hzero : (gravity g).2 = 0
  · exact ⟨0, by decide, le_antisymm (hzero.trans_le (Nat.zero_le _)) (hle 0 (by decide))⟩
  · obtain ⟨k, hk⟩ := Nat.exists_eq_add_one_of_ne_zero hzero
    have hunsettled : ¬ (passes k g).Settled := fun h => by
      have hless := (gravity_count_le_iff g k).2 h
      omega
    rw [Grid.settled_iff] at hunsettled
    push Not at hunsettled
    obtain ⟨c, hc, hcolumn⟩ := hunsettled
    rw [← gravity_onlyColumn_count_le_iff g hc] at hcolumn
    exact ⟨c, hc, le_antisymm (by omega) (hle c hc)⟩

end Sys2Proof.Machine
end

section
/-! PROOFS. The bounds of spec/41_gravity.md R87: the 256 occupancy patterns of a column are enumerated, as the rule does,
and a board is its eight columns. -/

namespace Sys2Proof.Machine

/-! ### A column by its occupancy (R73) -/

/-- Where the lowest piece falls to is a matter of occupancy (R73). -/
theorem lowerLowest_map {α : Type} (p : α → Bool) (e : α) (vs : List α) :
    (lowerLowest p e vs).map p = lowerLowest id (p e) (vs.map p) := by
  induction vs generalizing e with
  | nil => rfl
  | cons v vs ih =>
    rw [lowerLowest, List.map_cons, lowerLowest, id_eq, apply_ite (List.map p), List.map_cons, List.map_cons,
      List.map_cons, ih]

/-- Which pieces fall over the first empty entry is a matter of occupancy (R73). -/
theorem fillHole_map {α : Type} (p : α → Bool) (e : α) (vs : List α) :
    (fillHole p e vs).map p = fillHole id (p e) (vs.map p) := by
  induction vs with
  | nil => rfl
  | cons v vs ih =>
    rw [fillHole, List.map_cons, fillHole, id_eq, apply_ite (List.map p), List.map_cons, List.map_cons, ih,
      lowerLowest_map]

/-- A pass on a column sees occupancy only (R73). -/
theorem columnPass_map {α : Type} (p : α → Bool) (vs : List α) :
    (columnPass p vs).map p = columnPass id (vs.map p) := by
  induction vs with
  | nil => rfl
  | cons v vs ih =>
    rw [columnPass, List.map_cons, columnPass, id_eq, apply_ite (List.map p), List.map_cons, ih, fillHole_map]

/-- The occupancy of column `c`, bottom-up. -/
def Grid.occColumn (g : Grid) (c : Nat) : List Bool := (g.column c).map (· != 0)

/-- A pass on the occupancy of a column (R73, R86). -/
theorem gpass_occColumn (g : Grid) {c : Nat} (hc : c < 8) :
    (gpass g).1.occColumn c = columnPass id (g.occColumn c) := by
  rw [Grid.occColumn, gpass_column g hc, columnPass_map, Grid.occColumn]

/-- Passes on the occupancy of a column (R73, R86). -/
theorem passes_occColumn (k : Nat) (g : Grid) {c : Nat} (hc : c < 8) :
    (passes k g).occColumn c = (columnPass id)^[k] (g.occColumn c) := by
  induction k generalizing g with
  | zero => rfl
  | succ k ih =>
    rw [Function.iterate_succ_apply, ← gpass_occColumn g hc]
    exact ih (gpass g).1

/-- Whether a column is compacted shows in its occupancy (R84). -/
theorem settledColumn_iff_map (vs : List (BitVec 2)) :
    SettledColumn vs ↔ (vs.map (· != 0)).Pairwise fun lower upper => lower = false → upper = false := by
  simp only [SettledColumn, List.pairwise_map, bne_eq_false_iff_eq]

/-! ### The sum of the row indices, column by column (R83) -/

/-- The sum of the row indices of the pieces of a column, from its occupancy (R83). -/
def columnRowSum (bs : List Bool) : Nat := ∑ r ∈ Finset.range 8, if bs.getD r false then r else 0

/-- An entry of the occupancy of a column is a bit of `OCC` (10_state.md R19). -/
theorem Grid.occColumn_getD (g : Grid) {r : Nat} (c : Nat) (hr : r < 8) :
    (g.occColumn c).getD r false = g.occ.getLsbD (cellIndex r c) := by
  have hcell : (g.occColumn c).getD r false = (g.cell r c != 0) := by
    simp [Grid.occColumn, Grid.column, hr]
  rw [hcell, Bool.eq_iff_iff, bne_iff_ne, Grid.cell_ne_zero_iff]

/-- The sum of R83 column by column: each cell index is that of one cell. -/
theorem rowIndexSum_eq_sum_columns (g : Grid) :
    rowIndexSum g = ∑ c ∈ Finset.range 8, columnRowSum (g.occColumn c) := by
  have hcolumn : ∀ c ∈ Finset.range 8, columnRowSum (g.occColumn c) =
      ∑ r ∈ Finset.range 8, rowWeight g.occ (cellIndex r c) := fun c hc =>
    Finset.sum_congr rfl fun r hr => by
      rw [Finset.mem_range] at hc hr
      rw [g.occColumn_getD c hr, rowWeight, show cellIndex r c / 8 = r by unfold cellIndex; omega]
  rw [Finset.sum_congr rfl hcolumn, ← Finset.sum_product', rowIndexSum_eq_sum]
  refine Finset.sum_nbij' (fun i => (i % 8, i / 8)) (fun q => cellIndex q.2 q.1) ?_ ?_ ?_ ?_ ?_
  all_goals simp only [Finset.mem_product, Finset.mem_range]
  · intro i hi
    omega
  · intro q hq
    exact cellIndex_lt hq.2 hq.1
  · exact fun i _ => cellIndex_div_mod i
  · intro q hq
    ext <;> simp only [cellIndex] <;> omega
  · exact fun i _ => by rw [cellIndex_div_mod]

/-- On the board of one column only that column adds to the sum (R86). -/
theorem rowIndexSum_onlyColumn (g : Grid) {c : Nat} (hc : c < 8) :
    rowIndexSum (g.onlyColumn c) = columnRowSum (g.occColumn c) := by
  rw [rowIndexSum_eq_sum_columns, Finset.sum_eq_single_of_mem c (Finset.mem_range.2 hc) ?other, Grid.occColumn,
    Grid.onlyColumn_column g hc hc, if_pos rfl, Grid.occColumn]
  case other =>
    intro c' hc' hne
    rw [Grid.occColumn, Grid.onlyColumn_column g hc (Finset.mem_range.1 hc'), if_neg hne]
    rfl

/-- The moves of passes add up to what they lower the sum by (R83). -/
theorem sum_gpass_moves (p : Nat) (g : Grid) :
    ((List.range p).map fun k => (gpass (passes k g)).2).sum + rowIndexSum (passes p g) = rowIndexSum g := by
  induction p with
  | zero => exact Nat.zero_add _
  | succ p ih =>
    have hpass := passUnder_rowIndexSum Config.gravitySupportRule (passes p g)
    have hlast : passes (p + 1) g = (gpass (passes p g)).1 := passes_add 1 p g
    rw [List.range_succ, List.map_append, List.sum_append, List.map_singleton, List.sum_singleton, hlast, ← ih, ← hpass,
      gpass]
    omega

/-! ### The bounds (R87) -/

/-- All 256 occupancy patterns of a column: 13 passes compact it, one pass lowers its sum of row indices by at most 7, and
13 passes by at most 16 (R87). -/
theorem column_bounds_enumerated : ∀ b0 b1 b2 b3 b4 b5 b6 b7 : Bool,
    let bs := [b0, b1, b2, b3, b4, b5, b6, b7]
    ((columnPass id)^[13] bs).Pairwise (fun lower upper => lower = false → upper = false) ∧
      columnRowSum bs ≤ columnRowSum (columnPass id bs) + 7 ∧
      columnRowSum bs ≤ columnRowSum ((columnPass id)^[13] bs) + 16 := by
  decide +kernel

/-- The bounds for every column of every board (R87). -/
theorem column_bounds (g : Grid) {c : Nat} (hc : c < 8) :
    SettledColumn ((passes 13 g).column c) ∧
      columnRowSum (g.occColumn c) ≤ columnRowSum ((gpass g).1.occColumn c) + 7 ∧
      columnRowSum (g.occColumn c) ≤ columnRowSum ((passes 13 g).occColumn c) + 16 := by
  rw [settledColumn_iff_map, ← Grid.occColumn, gpass_occColumn g hc, passes_occColumn 13 g hc]
  exact column_bounds_enumerated (g.cell 0 c != 0) (g.cell 1 c != 0) (g.cell 2 c != 0) (g.cell 3 c != 0)
    (g.cell 4 c != 0) (g.cell 5 c != 0) (g.cell 6 c != 0) (g.cell 7 c != 0)

/-- 13 passes compact every board (R87). -/
theorem passes_settled (g : Grid) : (passes 13 g).Settled :=
  (Grid.settled_iff _).2 fun _ hc => (column_bounds g hc).1

/-- GRAV makes at most 13 moving passes (R87). -/
theorem gravity_count_le (g : Grid) : (gravity g).2 ≤ 13 := (gravity_count_le_iff g 13).2 (passes_settled g)

/-- The passes that GRAV counts are enough for the 13 that are always enough (R87). -/
theorem passes_gravity_count (g : Grid) : passes (gravity g).2 g = passes 13 g := by
  obtain ⟨j, hj⟩ := Nat.exists_eq_add_of_le (gravity_count_le g)
  rw [hj, passes_add, passes_of_settled ((gravity_count_le_iff g _).1 le_rfl)]

/-- A bound on every column is eight times that bound on the board. -/
theorem rowIndexSum_le_of_columns {g h : Grid} {n : Nat}
    (hcolumns : ∀ c, c < 8 → columnRowSum (g.occColumn c) ≤ columnRowSum (h.occColumn c) + n) :
    rowIndexSum g ≤ rowIndexSum h + 8 * n := by
  rw [rowIndexSum_eq_sum_columns, rowIndexSum_eq_sum_columns]
  refine (Finset.sum_le_sum fun c hc => hcolumns c (Finset.mem_range.1 hc)).trans_eq ?_
  rw [Finset.sum_add_distrib, Finset.sum_const, Finset.card_range, smul_eq_mul]

/-- A pass makes at most 56 moves (R87). -/
theorem gpass_moves_le (g : Grid) : (gpass g).2 ≤ 56 := by
  have hpass : rowIndexSum (gpass g).1 + (gpass g).2 = rowIndexSum g := passUnder_rowIndexSum _ g
  have hcolumns := rowIndexSum_le_of_columns fun c hc => (column_bounds g hc).2.1
  omega

/-- GRAV makes at most 128 moves (R87). -/
theorem gravity_moves_le (g : Grid) :
    ((List.range (gravity g).2).map fun k => (gpass (passes k g)).2).sum ≤ 128 := by
  have hmoves := sum_gpass_moves (gravity g).2 g
  have hcolumns := rowIndexSum_le_of_columns fun c hc => (column_bounds g hc).2.2
  rw [passes_gravity_count] at hmoves
  omega

/-- A pass makes at most 7 moves in one column (R87). -/
theorem gpass_onlyColumn_moves_le (g : Grid) {c : Nat} (hc : c < 8) : (gpass (g.onlyColumn c)).2 ≤ 7 := by
  have hpass : rowIndexSum (gpass (g.onlyColumn c)).1 + (gpass (g.onlyColumn c)).2 = rowIndexSum (g.onlyColumn c) :=
    passUnder_rowIndexSum _ _
  obtain ⟨-, hcolumn, -⟩ := column_bounds g hc
  rw [← gpass_onlyColumn g hc, rowIndexSum_onlyColumn _ hc, rowIndexSum_onlyColumn _ hc] at hpass
  omega

/-- GRAV makes at most 16 moves in one column (R87). -/
theorem gravity_onlyColumn_moves_le (g : Grid) {c : Nat} (hc : c < 8) :
    ((List.range (gravity (g.onlyColumn c)).2).map fun k => (gpass (passes k (g.onlyColumn c))).2).sum ≤ 16 := by
  have hmoves := sum_gpass_moves (gravity (g.onlyColumn c)).2 (g.onlyColumn c)
  obtain ⟨-, -, hcolumn⟩ := column_bounds g hc
  rw [passes_gravity_count, ← passes_onlyColumn 13 g hc, rowIndexSum_onlyColumn _ hc, rowIndexSum_onlyColumn _ hc]
    at hmoves
  omega

/-- Settles O38: the worst cases are run. -/
theorem gravityBounds : Obligations.GravityBounds := by
  refine ⟨fun g => ⟨gravity_count_le g, ?_, gpass_moves_le g, gravity_moves_le g, fun c hc =>
    ⟨gpass_onlyColumn_moves_le g hc, gravity_onlyColumn_moves_le g hc⟩⟩, ?worst⟩
  · exact (passUnder_still_iff_settled _ _).2 ((gravity_count_le_iff g _).1 le_rfl)
  case worst => decide +kernel

end Sys2Proof.Machine
end

section
/-! PROOFS. The family of spec/42_transpose.md: XPOSE and the laws of its contract cell by cell (R90, R93, R94), and the
delta-swap network by the index bits that its stages exchange (R91, R92). -/

namespace Sys2Proof.Machine

/-! ### The transpose cell by cell (R90) -/

/-- A matrix is determined by its cells (00_scope.md R9). -/
theorem eq_of_getLsbD_cellIndex_eq {x y : Word}
    (hcells : ∀ r c, r < 8 → c < 8 → x.getLsbD (cellIndex r c) = y.getLsbD (cellIndex r c)) : x = y := by
  apply BitVec.eq_of_getLsbD_eq
  intro i hi
  simpa only [cellIndex_div_mod] using hcells (i / 8) (i % 8) (by omega) (by omega)

/-- The contract of the transposer (R90). -/
theorem transpose_getLsbD_cellIndex (m : Word) {r c : Nat} (hr : r < 8) (hc : c < 8) :
    (transpose m).getLsbD (cellIndex r c) = m.getLsbD (cellIndex c r) := by
  have hcol : cellIndex r c % 8 = c := by unfold cellIndex; omega
  have hrow : cellIndex r c / 8 = r := by unfold cellIndex; omega
  rw [transpose_getLsbD _ _ (cellIndex_lt hr hc), hcol, hrow]

/-! ### The command (R90, R93) -/

/-- XPOSE (R90). -/
theorem exec_xpose (s : State) : exec .xpose s = .next (s.respond .ok (transpose s.held.data)) := rfl

/-- Settles O39: the response is the transpose, cell by cell. -/
theorem xposeTransposesTheOperand : Obligations.XposeTransposesTheOperand := fun s =>
  ⟨transpose s.held.data, exec_xpose s, fun _ _ hr hc => transpose_getLsbD_cellIndex s.held.data hr hc⟩

/-- Settles O40: the response is the transpose of the operand that both states hold. -/
theorem xposeIgnoresThePlanes : Obligations.XposeIgnoresThePlanes := by
  intro s s' hdata
  refine ⟨_, _, exec_xpose s, exec_xpose s', rfl, rfl, ?_, ?_⟩
  · rw [State.respond_rspStatus, State.respond_rspStatus]
  · rw [State.respond_rspData, State.respond_rspData, hdata]

/-! ### Laws (R94) -/

/-- Involution (R94). -/
theorem transpose_transpose (m : Word) : transpose (transpose m) = m :=
  eq_of_getLsbD_cellIndex_eq fun r c hr hc => by
    rw [transpose_getLsbD_cellIndex _ hr hc, transpose_getLsbD_cellIndex _ hc hr]

/-- The fixed points are the symmetric matrices (R94). -/
theorem transpose_eq_self_iff (m : Word) :
    transpose m = m ↔ ∀ r c, r < 8 → c < 8 → m.getLsbD (cellIndex r c) = m.getLsbD (cellIndex c r) := by
  constructor
  · intro hfixed r c hr hc
    rw [← transpose_getLsbD_cellIndex m hc hr, hfixed]
  · intro hsymm
    refine eq_of_getLsbD_cellIndex_eq fun r c hr hc => ?_
    rw [transpose_getLsbD_cellIndex m hr hc, hsymm r c hr hc]

/-- One cell goes to one cell (R94). -/
theorem transpose_cellBit {r c : Nat} (hr : r < 8) (hc : c < 8) : transpose (cellBit r c) = cellBit c r := by
  refine eq_of_getLsbD_cellIndex_eq fun a b ha hb => ?_
  rw [transpose_getLsbD_cellIndex _ ha hb, cellBit_getLsbD, cellBit_getLsbD, Bool.eq_iff_iff]
  simp only [cellIndex_lt ha hb, cellIndex_lt hb ha, cellIndex_inj ha hc, cellIndex_inj hb hr, decide_true,
    Bool.true_and, decide_eq_true_eq, and_comm]

/-- The indices of the transposed cells are the cell indices, in another order. -/
theorem perm_range_map_cellIndex :
    ((List.range 64).map fun i => cellIndex (i % 8) (i / 8)).Perm (List.range 64) := by
  decide

/-- Popcount (R94): the transposer counts the same bits, in another order. -/
theorem popcount_transpose (m : Word) : popcount (transpose m) = popcount m :=
  calc popcount (transpose m)
    _ = (List.range 64).countP fun i => m.getLsbD (cellIndex (i % 8) (i / 8)) :=
      List.countP_congr fun i hi => by rw [transpose_getLsbD m i (List.mem_range.1 hi)]
    _ = ((List.range 64).map fun i => cellIndex (i % 8) (i / 8)).countP fun i => m.getLsbD i :=
      List.countP_map.symm
    _ = popcount m := perm_range_map_cellIndex.countP_eq _

/-- Rows to columns (R94): byte `r` is row `r`, and becomes column `r`. -/
theorem transpose_getLsbD_eq_byteLane (m : Word) {r c : Nat} (hr : r < 8) (hc : c < 8) :
    (transpose m).getLsbD (cellIndex c r) = (byteLane r m).getLsbD c := by
  rw [transpose_getLsbD_cellIndex m hc hr, byteLane_getLsbD r c m hc, cellIndex, Nat.mul_comm]

/-- The matrix that R94 names is symmetric. -/
theorem r94Matrix_symmetric : ∀ r, r < 8 → ∀ c, c < 8 →
    (0x8142241818244281 : Word).getLsbD (cellIndex r c) = (0x8142241818244281 : Word).getLsbD (cellIndex c r) := by
  decide

/-- Settles O43: the matrix of the statement is a fixed point as it is symmetric. -/
theorem transposeLaws : Obligations.TransposeLaws :=
  ⟨fun m => ⟨transpose_transpose m, transpose_eq_self_iff m, popcount_transpose m,
      fun _ _ => transpose_getLsbD_eq_byteLane m⟩,
    fun _ _ => transpose_cellBit, (transpose_eq_self_iff _).2 fun r c hr => r94Matrix_symmetric r hr c⟩

/-! ### Cell indices with two bits exchanged (R92)

Bits 0 to 2 of a cell's index are its column, bits 3 to 5 its row. -/

/-- The cells with `r_j = 1` and `c_j = 0`, those of mask `j` (R92). -/
def inStageMask (j i : Nat) : Bool := i.testBit (j + 3) && !i.testBit j

/-- Index `i` with `r_j` and `c_j` exchanged (R92). -/
def exchange (j i : Nat) : Nat :=
  if i.testBit j = i.testBit (j + 3) then i else i ^^^ (2 ^ j + 2 ^ (j + 3))

/-- The exchange in terms of mask and distance (R92): a cell of the mask swaps with the cell `7·2^j` below it, and the
others stay. -/
theorem exchange_cases : ∀ j, j < 3 → ∀ i, i < 64 →
    (inStageMask j i = true ∧ inStageMask j (7 * 2 ^ j + i) = false ∧ 7 * 2 ^ j ≤ i ∧
      exchange j i = i - 7 * 2 ^ j) ∨
    (inStageMask j i = false ∧ inStageMask j (7 * 2 ^ j + i) = true ∧ 7 * 2 ^ j + i < 64 ∧
      exchange j i = 7 * 2 ^ j + i) ∨
    (inStageMask j i = false ∧ inStageMask j (7 * 2 ^ j + i) = false ∧ exchange j i = i) := by
  decide

/-- An exchange stays on the board. -/
theorem exchange_lt : ∀ j, j < 3 → ∀ i, i < 64 → exchange j i < 64 := by decide

/-- An exchange is its own inverse (R92). -/
theorem exchange_exchange : ∀ j, j < 3 → ∀ i, i < 64 → exchange j (exchange j i) = i := by decide

/-- Exchanges of disjoint pairs of index bits commute (R92). -/
theorem exchange_comm : ∀ j, j < 3 → ∀ k, k < 3 → ∀ i, i < 64 →
    exchange j (exchange k i) = exchange k (exchange j i) := by
  decide

/-- The three exchanges together are the full exchange `r ↔ c` (R92). -/
theorem exchange_all : ∀ i, i < 64 → exchange 0 (exchange 1 (exchange 2 i)) = cellIndex (i % 8) (i / 8) := by decide

/-! ### The stages (R92) -/

/-- Mask `k` and distance `d` are those of stage `j` (R92). -/
structure IsStage (j : Nat) (k : Word) (d : Nat) : Prop where
  lt_three : j < 3
  distance : d = 7 * 2 ^ j
  mask : ∀ i, i < 64 → k.getLsbD i = inStageMask j i

/-- The mask of a stage ends with the board. -/
theorem inStageMask_of_ge : ∀ j, j < 3 → ∀ i, i < 64 → 64 ≤ 7 * 2 ^ j + i →
    inStageMask j (7 * 2 ^ j + i) = false := by
  decide

/-- Stage `j` exchanges the index bits `r_j` and `c_j` (R92). -/
theorem IsStage.deltaSwap_getLsbD {j d : Nat} {k : Word} (hstage : IsStage j k d) (m : Word) {i : Nat} (hi : i < 64) :
    (deltaSwap k d m).getLsbD i = m.getLsbD (exchange j i) := by
  obtain ⟨hj, rfl, hmask⟩ := hstage
  have hpartner : k.getLsbD (7 * 2 ^ j + i) = inStageMask j (7 * 2 ^ j + i) := by
    by_cases hup : 7 * 2 ^ j + i < 64
    · exact hmask _ hup
    · rw [BitVec.getLsbD_of_ge _ _ (by omega), inStageMask_of_ge j hj i hi (by omega)]
  rw [Machine.deltaSwap_getLsbD _ _ _ _ hi, hmask i hi, hpartner]
  obtain ⟨hself, hother, hle, hexchange⟩ | ⟨hself, hother, hlt, hexchange⟩ | ⟨hself, hother, hexchange⟩ :=
    exchange_cases j hj i hi
  · simp [hself, hother, hle, hexchange]
  · simp [hself, hother, hlt, hexchange, Bool.xor_comm]
  · simp [hself, hother, hexchange]

/-- A stage is its own inverse (R92). -/
theorem IsStage.deltaSwap_deltaSwap {j d : Nat} {k : Word} (hstage : IsStage j k d) (m : Word) :
    deltaSwap k d (deltaSwap k d m) = m := by
  apply BitVec.eq_of_getLsbD_eq
  intro i hi
  rw [hstage.deltaSwap_getLsbD _ hi, hstage.deltaSwap_getLsbD _ (exchange_lt j hstage.lt_three i hi),
    exchange_exchange j hstage.lt_three i hi]

/-- Stages commute (R92). -/
theorem IsStage.deltaSwap_comm {j d j' d' : Nat} {k k' : Word} (hstage : IsStage j k d) (hstage' : IsStage j' k' d')
    (m : Word) : deltaSwap k d (deltaSwap k' d' m) = deltaSwap k' d' (deltaSwap k d m) := by
  apply BitVec.eq_of_getLsbD_eq
  intro i hi
  rw [hstage.deltaSwap_getLsbD _ hi, hstage'.deltaSwap_getLsbD _ (exchange_lt j hstage.lt_three i hi),
    hstage'.deltaSwap_getLsbD _ hi, hstage.deltaSwap_getLsbD _ (exchange_lt j' hstage'.lt_three i hi),
    exchange_comm j' hstage'.lt_three j hstage.lt_three i hi]

/-- The 1×1 stage (R91). -/
theorem isStage_K1 : IsStage 0 maskK1 7 := ⟨by decide, rfl, by decide⟩

/-- The 2×2 stage (R91). -/
theorem isStage_K2 : IsStage 1 maskK2 14 := ⟨by decide, rfl, by decide⟩

/-- The 4×4 stage (R91). -/
theorem isStage_K4 : IsStage 2 maskK4 28 := ⟨by decide, rfl, by decide⟩

/-- The masks and distances of R91 are those of the three stages of R92. -/
theorem isStage_of_mem :
    ∀ st ∈ [(0, maskK1, 7), (1, maskK2, 14), (2, maskK4, 28)], IsStage st.1 st.2.1 st.2.2 := by
  simp only [List.forall_mem_cons]
  exact ⟨isStage_K1, isStage_K2, isStage_K4, List.forall_mem_nil _⟩

/-! ### The network (R91) -/

/-- The reference network computes the transpose (R91): its stages together exchange `r` and `c`. -/
theorem transposeNetwork_eq (m : Word) : transposeNetwork m = transpose m := by
  apply BitVec.eq_of_getLsbD_eq
  intro i hi
  have hi2 : exchange 2 i < 64 := exchange_lt 2 (by decide) i hi
  have hi1 : exchange 1 (exchange 2 i) < 64 := exchange_lt 1 (by decide) _ hi2
  rw [transposeNetwork, isStage_K4.deltaSwap_getLsbD _ hi, isStage_K2.deltaSwap_getLsbD _ hi2,
    isStage_K1.deltaSwap_getLsbD _ hi1, exchange_all i hi, transpose_getLsbD m i hi]

/-- Settles O41. -/
theorem networkComputesTranspose : Obligations.NetworkComputesTranspose := transposeNetwork_eq

/-- The stages in any order give the transpose (R92), as they commute. -/
theorem foldl_deltaSwap_of_perm {stages : List (Word × Nat)}
    (hperm : stages.Perm [(maskK1, 7), (maskK2, 14), (maskK4, 28)]) (m : Word) :
    stages.foldl (fun x st => deltaSwap st.1 st.2 x) m = transpose m := by
  have hstage : ∀ st ∈ stages, ∃ j, IsStage j st.1 st.2 := fun st hmem => by
    have hrow : st ∈ [(0, maskK1, 7), (1, maskK2, 14), (2, maskK4, 28)].map Prod.snd := hperm.mem_iff.1 hmem
    obtain ⟨row, htable, rfl⟩ := List.mem_map.1 hrow
    exact ⟨row.1, isStage_of_mem row htable⟩
  rw [hperm.foldl_eq' (fun st hst st' hst' x => ?comm), ← transposeNetwork_eq]
  · rfl
  case comm =>
    obtain ⟨j, hj⟩ := hstage st hst
    obtain ⟨j', hj'⟩ := hstage st' hst'
    exact hj'.deltaSwap_comm hj x

/-- Settles O42. -/
theorem stagesExchangeIndexBits : Obligations.StagesExchangeIndexBits := by
  refine ⟨fun st hmem => ?_, fun _ hperm => foldl_deltaSwap_of_perm hperm⟩
  have hstage := isStage_of_mem st hmem
  exact ⟨hstage.distance, hstage.mask, fun m => ⟨hstage.deltaSwap_deltaSwap m, fun _ => hstage.deltaSwap_getLsbD m⟩⟩

end Sys2Proof.Machine
end

section
/-! PROOFS. The family of spec/60_exceptions.md: the causes of an error as numbers (R97 to R99) and their priority (R95,
R100), what taking an error leaves unchanged (R96), that no step of a dutiful host stops (R101, R103), and the stopped
clock and the loss of power (R110). -/

namespace Sys2Proof

/-! ### The causes of an error in a word as a number (R95, R97 to R99) -/

/-- No opcode of the map of R56 is in bits [7:0] (R98). -/
def IllegalOpcode (n : Nat) : Prop := n % 256 = 0 ∨ 8 < n % 256

/-- GET with a nonzero VAL, or neither GET nor SET and a nonzero bit in [31:8] (R99). -/
def ReservedBitsSet (n : Nat) : Prop :=
  (n % 256 = 2 ∧ n / 2 ^ 24 ≠ 0) ∨ (n % 256 ≠ 2 ∧ n % 256 ≠ 3 ∧ n / 2 ^ 8 ≠ 0)

/-- GET or SET with a row or a column of 8 or more, or SET with a value of 4 or more (R97). -/
def ArgOutOfRange (n : Nat) : Prop :=
  ((n % 256 = 2 ∨ n % 256 = 3) ∧ (8 ≤ n / 2 ^ 8 % 256 ∨ 8 ≤ n / 2 ^ 16 % 256)) ∨ (n % 256 = 3 ∧ 4 ≤ n / 2 ^ 24)

/-- The opcodes in no row of the table (R56, R59). -/
theorem forall_row_opcode_ne_iff (opc : BitVec 8) :
    (∀ row ∈ opcodeTable, opc ≠ row.opcode) ↔ opc.toNat = 0 ∨ 8 < opc.toNat := by
  simp only [opcodeTable, List.forall_mem_cons, List.not_mem_nil, IsEmpty.forall_iff, implies_true, and_true, Ne,
    BitVec.toNat_eq, BitVec.ofNat_eq_ofNat, BitVec.toNat_ofNat]
  omega

/-- The decoder answers with an illegal opcode where the opcode is one (R58, R98). -/
theorem decode_eq_illegalOpcode_iff (w : Cmd) : decode w = .error .illegalOpcode ↔ IllegalOpcode w.toNat := by
  have hunmapped : IllegalOpcode w.toNat ↔ ∀ row ∈ opcodeTable, cmdOpc w ≠ row.opcode := by
    rw [forall_row_opcode_ne_iff, cmdOpc_toNat]
    rfl
  rw [hunmapped]
  refine ⟨fun h => ?_, decode_eq_illegalOpcode⟩
  obtain ⟨-, hrows⟩ | ⟨herror, -⟩ | ⟨herror, -⟩ := decode_error_cases h
  · exact hrows
  · cases herror
  · cases herror

/-- The word of GET as a number (R62). -/
theorem encode_get_toNat {row col : Nat} (hrow : row < 256) (hcol : col < 256) :
    (encode (.get row col)).toNat = col * 2 ^ 16 + row * 2 ^ 8 + 2 := by
  rw [encode, enc_toNat _ hrow hcol (by decide), Nat.zero_mul, Nat.zero_add]
  rfl

/-- The word of SET as a number (R62). -/
theorem encode_set_toNat {row col value : Nat} (hrow : row < 256) (hcol : col < 256) (hvalue : value < 256) :
    (encode (.set row col value)).toNat = value * 2 ^ 24 + col * 2 ^ 16 + row * 2 ^ 8 + 3 :=
  enc_toNat 0x03 hrow hcol hvalue

/-- A word that decodes has no reserved bit set (R58). -/
theorem not_reservedBitsSet_of_ok {w : Cmd} {i : Instr} (h : decode w = .ok i) : ¬ ReservedBitsSet w.toNat := by
  obtain ⟨hfits, rfl⟩ := encodeInvertsDecode w i h
  unfold ReservedBitsSet
  cases i with
  | get row col =>
    obtain ⟨hrow, hcol⟩ := (Instr.wellFormed_get_iff row col).1 hfits
    rw [encode_get_toNat hrow hcol]
    omega
  | set row col value =>
    obtain ⟨hrow, hcol, hvalue⟩ := (Instr.wellFormed_set_iff row col value).1 hfits
    rw [encode_set_toNat hrow hcol hvalue]
    omega
  | clr | grav | gpass | xpose | rdlo | rdhi => decide

/-- A word with a reserved-field error has a reserved bit set (R58). -/
theorem reservedBitsSet_of_error {w : Cmd} (h : decode w = .error .reservedField) : ReservedBitsSet w.toNat := by
  have hword := w.isLt
  unfold ReservedBitsSet
  obtain ⟨herror, -⟩ | ⟨-, hget, hset, hargs⟩ | ⟨-, hget, hval⟩ := decode_error_cases h
  · cases herror
  · simp only [Ne, BitVec.toNat_eq, cmdOpc_toNat, cmdArgs_toNat, BitVec.ofNat_eq_ofNat, BitVec.toNat_ofNat]
      at hget hset hargs
    omega
  · simp only [Ne, BitVec.toNat_eq, cmdOpc_toNat, cmdVal_toNat, BitVec.ofNat_eq_ofNat, BitVec.toNat_ofNat]
      at hget hval
    omega

/-- The decoder answers with a reserved-field error where the opcode is legal and a reserved bit is set (R99, R100). -/
theorem decode_eq_reservedField_iff (w : Cmd) :
    decode w = .error .reservedField ↔ ¬ IllegalOpcode w.toNat ∧ ReservedBitsSet w.toNat := by
  rw [← decode_eq_illegalOpcode_iff]
  refine ⟨fun h => ⟨by simp [h], reservedBitsSet_of_error h⟩, fun ⟨hlegal, hreserved⟩ => ?_⟩
  cases hdecode : decode w with
  | ok i => exact absurd hreserved (not_reservedBitsSet_of_ok hdecode)
  | error e =>
    cases e with
    | illegalOpcode => exact absurd hdecode hlegal
    | reservedField => rfl

/-- The bits of a word from `k` up, as a number. -/
theorem toNat_div_ne_zero_of_ushiftRight {w : Cmd} {k : Nat} (h : w >>> k ≠ 0) : w.toNat / 2 ^ k ≠ 0 := by
  rwa [Ne, BitVec.toNat_eq, BitVec.toNat_ushiftRight, Nat.shiftRight_eq_div_pow] at h

/-! ### Arguments in range (R97) -/

/-- Each argument is one that the block can use: a row and a column of the board, a value of a cell (R97). -/
def Instr.ArgsInRange : Instr → Prop
  | .get row col => row < 8 ∧ col < 8
  | .set row col value => row < 8 ∧ col < 8 ∧ value < 4
  | .clr | .grav | .gpass | .xpose | .rdlo | .rdhi => True

/-- The arguments of a command are in range where those of its word are (R55, R97). -/
theorem argsInRange_iff_of_ok {w : Cmd} {i : Instr} (h : decode w = .ok i) :
    i.ArgsInRange ↔ ¬ ArgOutOfRange w.toNat := by
  obtain ⟨hfits, rfl⟩ := encodeInvertsDecode w i h
  unfold ArgOutOfRange
  cases i with
  | get row col =>
    obtain ⟨hrow, hcol⟩ := (Instr.wellFormed_get_iff row col).1 hfits
    rw [encode_get_toNat hrow hcol, Instr.ArgsInRange]
    omega
  | set row col value =>
    obtain ⟨hrow, hcol, hvalue⟩ := (Instr.wellFormed_set_iff row col value).1 hfits
    rw [encode_set_toNat hrow hcol hvalue, Instr.ArgsInRange]
    omega
  | clr | grav | gpass | xpose | rdlo | rdhi =>
    simp only [Instr.ArgsInRange, true_iff]
    decide

end Sys2Proof

namespace Sys2Proof.Machine

/-- With its arguments in range a command completes with OK (R95, R97). -/
theorem exec_ok_of_argsInRange {i : Instr} (h : i.ArgsInRange) (s : State) :
    ∃ g d, exec i s = .next (s.complete g .ok d) := by
  cases i with
  | get row col =>
    obtain ⟨hrow, hcol⟩ := h
    exact ⟨_, _, exec_get_of_lt hrow hcol s⟩
  | set row col value =>
    obtain ⟨hrow, hcol, hvalue⟩ := h
    exact ⟨_, _, exec_set_of_lt hrow hcol hvalue s⟩
  | clr | grav | gpass | xpose | rdlo | rdhi => exact ⟨_, _, rfl⟩

/-- With an argument out of range a command takes ERR_ARG (R97). -/
theorem exec_raise_of_not_argsInRange {i : Instr} (h : ¬ i.ArgsInRange) (s : State) :
    exec i s = .next (s.raise .errArg) := by
  cases i with
  | get row col => exact exec_get_outOfRange (by rwa [cellInRange_iff]) s
  | set row col value =>
    exact exec_set_outOfRange (by rwa [Bool.and_eq_true, cellInRange_iff, valueInRange_iff, and_assoc]) s
  | clr | grav | gpass | xpose | rdlo | rdhi => exact absurd trivial h

/-- Settles O12: the command takes ERR_ARG. -/
theorem outOfRangeArgumentsGiveErrArg : Obligations.OutOfRangeArgumentsGiveErrArg := by
  refine ⟨fun row col s hout => ⟨_, exec_raise_of_not_argsInRange ?get s⟩,
    fun row col value s hout => ⟨_, exec_raise_of_not_argsInRange ?set s⟩⟩
  case get =>
    unfold Instr.ArgsInRange
    omega
  case set =>
    unfold Instr.ArgsInRange
    omega

/-! ### The priority of the causes (R95, R99, R100) -/

/-- Settles O8: the opcodes without operands are legal and neither GET's nor SET's, and SET has no reserved bit. -/
theorem reservedFieldsCompleteWithErrRsv : Obligations.ReservedFieldsCompleteWithErrRsv := by
  have hbare : ∀ opc ∈ [0x01#8, 0x04#8, 0x05#8, 0x06#8, 0x07#8, 0x08#8],
      opc.toNat ≠ 0 ∧ opc.toNat ≤ 8 ∧ opc.toNat ≠ 2 ∧ opc.toNat ≠ 3 := by decide
  refine ⟨fun w s hreserved => ⟨_, runHeld_of_error ((decode_eq_reservedField_iff w).2 ?reserved) s⟩,
    fun w hset hdecode => ?set⟩
  case reserved =>
    unfold IllegalOpcode ReservedBitsSet
    obtain ⟨hopc, hargs⟩ | ⟨hopc, hval⟩ := hreserved
    · have hrange := hbare _ hopc
      rw [cmdOpc_toNat] at hrange
      have hbits := toNat_div_ne_zero_of_ushiftRight hargs
      omega
    · have hbits := toNat_div_ne_zero_of_ushiftRight hval
      have hget : w.toNat % 256 = 2 := (cmdOpc_toNat w).symm.trans (congrArg BitVec.toNat hopc)
      omega
  case set =>
    have hopc : w.toNat % 256 = 3 := (cmdOpc_toNat w).symm.trans (congrArg BitVec.toNat hset)
    have hbits := reservedBitsSet_of_error hdecode
    unfold ReservedBitsSet at hbits
    omega

/-- Settles O9: the decoder finds the first two causes in the order of R100, and only a word that decodes comes to the
range checks of the third. -/
theorem statusFollowsErrorPriority : Obligations.StatusFollowsErrorPriority := by
  intro w s
  cases hdecode : decode w with
  | error e =>
    refine ⟨_, runHeld_of_error hdecode s, ?_⟩
    cases e with
    | illegalOpcode => exact (if_pos ((decode_eq_illegalOpcode_iff w).1 hdecode)).symm
    | reservedField =>
      obtain ⟨hlegal, hreserved⟩ := (decode_eq_reservedField_iff w).1 hdecode
      exact ((if_neg hlegal).trans (if_pos hreserved)).symm
  | ok i =>
    have hlegal : ¬ IllegalOpcode w.toNat := by simp [← decode_eq_illegalOpcode_iff, hdecode]
    have hreserved : ¬ ReservedBitsSet w.toNat := not_reservedBitsSet_of_ok hdecode
    rw [runHeld_of_ok hdecode]
    by_cases hargs : i.ArgsInRange
    · have hrange : ¬ ArgOutOfRange w.toNat := (argsInRange_iff_of_ok hdecode).1 hargs
      obtain ⟨g, d, hok⟩ := exec_ok_of_argsInRange hargs s
      exact ⟨_, hok, ((if_neg hlegal).trans ((if_neg hreserved).trans (if_neg hrange))).symm⟩
    · have hrange : ArgOutOfRange w.toNat := by rwa [argsInRange_iff_of_ok hdecode, not_not] at hargs
      exact ⟨_, exec_raise_of_not_argsInRange hargs s,
        ((if_neg hlegal).trans ((if_neg hreserved).trans (if_pos hrange))).symm⟩

/-! ### Taking an error (R96) -/

/-- Settles O10: a command that does not complete with OK takes an error, which keeps the planes. -/
theorem errorsChangeNothing : Obligations.ErrorsChangeNothing := by
  intro w s t hrun hstatus
  obtain ⟨g, d, hok⟩ | ⟨st, herror⟩ := runHeld_ok_or_raise w s
  · cases hok.symm.trans hrun
    exact absurd rfl hstatus
  · cases herror.symm.trans hrun
    exact ⟨rfl, fun _ _ => rfl⟩

/-! ### No trap and no hang (R101, R103) -/

/-- In every phase an edge with `rst = 0` answers a next state (R48, R49, R51). -/
theorem exists_phaseEdge_eq_next (p : Pins) (s : State) : ∃ t, phaseEdge p s = .next t := by
  unfold phaseEdge
  cases s.phase with
  | idle => exact ⟨_, rfl⟩
  | busy =>
    by_cases hdue : s.held.edgesLeft ≤ 1
    · obtain ⟨g, st, d, hrun⟩ := runHeld_completes s.held.cmd s
      exact ⟨_, (if_pos hdue).trans hrun⟩
    · exact ⟨_, if_neg hdue⟩
  | resp => exact ⟨_, rfl⟩

/-- An edge at which the host keeps its duties answers a next state (R101). -/
theorem exists_clockEdge_eq_next {p : Pins} {s : State} (hduties : hostBreach p s = none) (rest : List Event) :
    ∃ t, clockEdge p rest s = .next t := by
  simp only [clockEdge, hduties]
  split_ifs
  · exact ⟨_, rfl⟩
  · exact ⟨_, rfl⟩
  · exact exists_phaseEdge_eq_next p _

/-- With no event left nothing happens (R110). -/
theorem step_of_stopped {s : State} (hevents : s.events = []) : step s = .next s := by
  simp [step, nextEvent, hevents]

/-- A loss of power (R110). -/
theorem step_of_powerLoss {s : State} {rest : List Event} (hevents : s.events = .powerLoss :: rest) :
    step s = .next (s.losePower rest) := by
  simp [step, nextEvent, hevents]

/-- Settles O51: each kind of next event. -/
theorem dutifulHostIsNeverRefused : Obligations.DutifulHostIsNeverRefused := by
  intro s hduties
  match hevents : s.events with
  | [] => exact ⟨s, step_of_stopped hevents⟩
  | .powerLoss :: rest => exact ⟨_, step_of_powerLoss hevents⟩
  | .edge p :: rest =>
    obtain ⟨t, hedge⟩ := exists_clockEdge_eq_next (hduties p rest hevents) rest
    exact ⟨t, (step_eq_clockEdge hevents).trans hedge⟩

/-! ### The stopped clock and the loss of power (R110) -/

/-- Settles O52: the step takes the next event, and there is none. -/
theorem stoppedClockHoldsEverything : Obligations.StoppedClockHoldsEverything := fun _ => step_of_stopped

/-- Before the first reset after power-up an edge with `rst = 0` leaves every register unspecified, and the wait goes on
(R116). -/
theorem step_of_needsReset {s : State} {p : Pins} {rest : List Event} (hevent : s.events = .edge p :: rest)
    (hduties : hostBreach p s = none) (hrst : p.rst = false) (hwaits : s.needsReset = true) :
    step s = .next (s.passEdge p rest).unspecified := by
  rw [step_eq_clockEdge hevent]
  simp [clockEdge, hduties, hrst, hwaits]

/-- Only a reset edge ends the wait for a reset (R116). -/
theorem reset_of_step_clears_needsReset {s t : State} (hwaits : s.needsReset = true) (hstep : step s = .next t)
    (hclear : t.needsReset = false) : ∃ p rest, s.events = .edge p :: rest ∧ p.rst = true := by
  obtain ⟨-, rfl⟩ | ⟨rest, -, rfl⟩ | ⟨p, rest, hevent, hedge⟩ := step_cases hstep
  · simp [hwaits] at hclear
  · simp at hclear
  · obtain ⟨-, ⟨hrst, -⟩ | ⟨-, -, rfl⟩ | ⟨-, hreset, -⟩⟩ := clockEdge_cases hedge
    · exact ⟨p, rest, hevent, hrst⟩
    · simp [hwaits] at hclear
    · simp [hwaits] at hreset

/-- Settles O53: the loss of power, an edge of the wait, and the edge that ends it. -/
theorem powerLossLeavesRegistersUnspecified : Obligations.PowerLossLeavesRegistersUnspecified := by
  refine ⟨fun s rest hevent => ⟨_, _, _, _, _, step_of_powerLoss hevent⟩,
    fun s p rest hevent hduties hrst hwaits => ?_,
    fun s t => reset_of_step_clears_needsReset⟩
  rw [step_of_needsReset hevent hduties hrst hwaits, ← hwaits]
  exact ⟨_, _, _, _, _, rfl⟩

end Sys2Proof.Machine
end

section
/-! PROOFS. The family of spec/70_reset_and_hazards.md: an edge with `rst = 1` takes precedence over `PHASE` and
over the wait for a reset (R111, R112), so one state follows it whatever the phase, and the ports are read off that
state (R113). -/

namespace Sys2Proof.Machine

/-- With a dutiful host an edge with `rst = 1` is the reset edge, in every phase (R111, R112). -/
theorem step_of_rst {s : State} {p : Pins} {rest : List Event} (hevent : s.events = .edge p :: rest)
    (hduties : hostBreach p s = none) (hrst : p.rst = true) : step s = .next (s.passEdge p rest).resetEdge := by
  rw [step_eq_clockEdge hevent]
  simp [clockEdge, hduties, hrst]

/-- Settles O48: the unspecified response registers are the free values of the reset edge. -/
theorem resetEdgeEmptiesTheBlock : Obligations.ResetEdgeEmptiesTheBlock := fun _ _ _ hevent hduties hrst =>
  ⟨_, _, step_of_rst hevent hduties hrst⟩

/-- The one state that an edge with `rst = 1` can answer: a host that breaks a duty there is refused instead. -/
theorem eq_resetEdge_of_step {s t : State} {p : Pins} {rest : List Event} (hevent : s.events = .edge p :: rest)
    (hrst : p.rst = true) (hstep : step s = .next t) : t = (s.passEdge p rest).resetEdge := by
  have hduties : hostBreach p s = none := (clockEdge_cases ((step_eq_clockEdge hevent).symm.trans hstep)).1
  rw [step_of_rst hevent hduties hrst] at hstep
  exact (Host.Outcome.next.inj hstep).symm

/-- `rst = 1` keeps `req_ready` at 0 in every phase (R47, R113). -/
theorem State.reqReady_of_rst (s : State) : s.reqReady true = false :=
  Bool.eq_false_iff.mpr fun hready => Bool.noConfusion ((s.reqReady_iff true).mp hready).2

/-- In IDLE no response is valid, and with `rst = 0` the block is ready (R47, R50). -/
theorem State.ports_of_idle {s : State} (hidle : s.phase = .idle) :
    s.rspValid = false ∧ s.reqReady false = true := by
  refine ⟨Bool.eq_false_iff.mpr fun hvalid => ?_, (s.reqReady_iff false).mpr ⟨hidle, rfl⟩⟩
  have hresp : s.phase = .resp := s.rspValid_iff.mp hvalid
  exact absurd (hidle.symm.trans hresp) (by decide)

/-- Settles O49: the state after a reset edge is IDLE, and IDLE gives the ports. -/
theorem blockIsReadyAfterReset : Obligations.BlockIsReadyAfterReset := by
  refine ⟨State.reqReady_of_rst, fun s t p rest hevent hrst hstep => ?_⟩
  have hidle : t.phase = .idle := by
    rw [eq_resetEdge_of_step hevent hrst hstep, State.resetEdge_phase]
  exact ⟨hidle, State.ports_of_idle hidle⟩

end Sys2Proof.Machine
end
